-- ==== Sys2Proof/Word.lean ====
section
/-! DEFINITION. Word.lean: the plain value types shared by every layer: bytes of the serial link, 16-bit
sequence numbers, points of the bed, and the saturating bound of Section 0.5.2. Quantities the manual treats as
integers in a unit (Table 0-2) are `Nat` or `Int`; only bytes and the modular sequence number are bit vectors. -/

namespace Sys2Proof

/-- One byte on the serial link (R170). -/
abbrev Byte := BitVec 8

/-- A 16-bit sequence number; its successor of 65,535 is 0 (R2). -/
abbrev SeqNo := BitVec 16

/-- A 16-bit tag of a Segment or Place record (Tables 2-2 and 4-1). -/
abbrev Tag16 := BitVec 16

/-- A point in bed coordinates, whole micrometres (Table 0-2). -/
structure Point where
  x : Int
  y : Int
deriving DecidableEq, Repr, Inhabited

/-- A saturating count: it stops at its upper bound (Section 0.5.2). -/
def satAdd (bound n k : Nat) : Nat := min bound (n + k)

end Sys2Proof
end

