-- ==== Sys2Proof/Config.lean ====
section
/-! DEFINITION. Config.lean: the free values: what the manual leaves open. Each is an opaque constant without a
body, so no proof and no evaluation can see its value; a claim about the model is true whatever it is. -/

namespace Sys2Proof

/-- FREE VALUE. The detail word of a reply for which no rule states one (the OK of a Configure or a Run, most
WRONG_STATE and NO_EFFECT answers, ...). It is applied to the model's own counter `State.freeCount`, which the
forming of such a reply advances, so that two such replies need not carry the same word. Log entry 2. -/
opaque Config.unstatedDetail : Nat → BitVec 16

/-- FREE VALUE. The bits of a sent flags byte that Tables 11-4, 11-6, 11-7 and the Announce layout do not name,
by the kind byte of the frame that carries it. Log entry 3. -/
opaque Config.unnamedFlagBits : Nat → BitVec 8

/-- FREE VALUE. The detail of an ABRASIVE_REPEAT fault that finds the queue empty: R140 names the executing entry's
sequence number, and there is none. It is applied to the s_stop of the recovery record. Log entry 49. -/
opaque Config.unstatedRepeatDetail : Nat → BitVec 16

end Sys2Proof
end

