-- ==== Sys2Proof/Machine/Arith.lean ====
section
/-! DEFINITION. Machine/Arith.lean: the part's arithmetic (R1): the integer square root, rounding to the nearest
integer with a half away from zero, and the real functions the rules round: arc lengths, points on a circle and angles.
Those are computed in fixed point at 192 binary places, whose error lies far below what any rounding of the manual can
see (log entry 7). Everything is structural recursion on numerals, so that the kernel can evaluate it. -/

namespace Sys2Proof.Machine

open Sys2Proof

/-- The integer square root, two binary digits of the argument at a time; `f` is at least half its digits. -/
def isqrtSteps : Nat → Nat → Nat
  | 0, _ => 0
  | f + 1, n =>
    match isqrtSteps f (n / 4) with
    | r => if (2 * r + 1) * (2 * r + 1) ≤ n then 2 * r + 1 else 2 * r

/-- The largest integer whose square does not exceed `n` (R1). -/
def isqrt (n : Nat) : Nat := isqrtSteps (n.log2 / 2 + 1) n

/-- `a / b` rounded to the nearest integer, a half away from zero (R1); `b > 0`. -/
def roundDiv (a : Int) (b : Nat) : Int :=
  if a < 0 then -(((2 * a.natAbs + b) / (2 * b) : Nat) : Int) else (((2 * a.natAbs + b) / (2 * b) : Nat) : Int)

/-- The square root rounded to the nearest integer; no integer has a root that ends in a half. -/
def roundSqrt (n : Nat) : Nat := (isqrt (4 * n) + 1) / 2

/-- One, in the fixed point of the angle functions: 2^192. -/
def unit : Nat := 2 ^ 192

/-- The terms of Euler's series for the arctangent of y / x from term `k` on, `t` being that term: each is the one
before times 2k+2 over 2k+3 times y² over x² + y². -/
def atanTerms (y2 h : Nat) : Nat → Nat → Nat → Nat
  | 0, _, _ => 0
  | f + 1, k, t => t + atanTerms y2 h f (k + 1) (t * ((2 * k + 2) * y2) / ((2 * k + 3) * h))

/-- arctan (y / x) in units of 2^-192 radian, for 0 ≤ y ≤ x and 0 < x. -/
def atanLow (y x : Nat) : Nat :=
  atanTerms (y * y) (x * x + y * y) 210 0 (unit * (x * y) / (x * x + y * y))

/-- π in units of 2^-192, by Machin's formula. -/
def piScaled : Nat := 16 * atanLow 1 5 - 4 * atanLow 1 239

/-- The angle in [0, π/2] of the direction (x, y), both at least 0. -/
def atanQuadrant (y x : Nat) : Nat :=
  if y ≤ x then atanLow y x else piScaled / 2 - atanLow x y

/-- The angle in [0, 2π) from the direction +X counter-clockwise to (x, y), in units of 2^-192 radian; 0 at the
origin. -/
def angleOf (y x : Int) : Nat :=
  if y = 0 ∧ x = 0 then 0
  else if 0 ≤ y then
    if 0 ≤ x then atanQuadrant y.natAbs x.natAbs else piScaled - atanQuadrant y.natAbs x.natAbs
  else if 0 ≤ x then 2 * piScaled - atanQuadrant y.natAbs x.natAbs
  else piScaled + atanQuadrant y.natAbs x.natAbs

/-- The terms of the cosine (from `k` = 0) or sine (from `k` = 1) series of angle `θ`, `t` being the present one: each
is the one before times -θ² over (k+1)(k+2). -/
def trigTerms (θ2 : Nat) : Nat → Nat → Int → Int
  | 0, _, _ => 0
  | f + 1, k, t => t + trigTerms θ2 f (k + 2) (-(t * (θ2 : Int) / ((unit * unit * ((k + 1) * (k + 2)) : Nat) : Int)))

/-- The cosine of `θ`, both in units of 2^-192. -/
def cosScaled (θ : Nat) : Int := trigTerms (θ * θ) 50 0 (unit : Int)

/-- The sine of `θ`, both in units of 2^-192. -/
def sinScaled (θ : Nat) : Int := trigTerms (θ * θ) 50 1 (θ : Int)

end Sys2Proof.Machine
end

