-- ==== Sys2Proof/Syntax.lean ====
section
/-! DEFINITION. Syntax.lean: the commands of the part: one constructor of `Instr` for each row of
spec/opcode_table.json, with the operands the spec gives it. A host request carries the frame tag of its frame
(R170) and the record of its payload AS SENT: a field holds whatever the bytes spell, and the owner's rules check it.
An event carries what the machine line it stands for carries. -/

namespace Sys2Proof

/-- One of the two zones of the bed (Section 9.1). -/
inductive Zone
  | a
  | b
deriving DecidableEq, Repr

/-- The three trip inputs (Section 1.2.2). -/
inductive TripInput
  | estop
  | overpressure
  | catcher
deriving DecidableEq, Repr

/-- The three axes, as the drive-ready inputs name them (R114). -/
inductive AxisName
  | x
  | y
  | z
deriving DecidableEq, Repr

/-- A named head height (R107). -/
inductive ZPos
  | clear
  | pierce
  | cut
deriving DecidableEq, Repr

/-- The Configure record: the 33 fields of Table 1-8. -/
structure ConfigRec where
  xMin : Int
  xMax : Int
  yMin : Int
  yMax : Int
  homeX : Int
  homeY : Int
  zoneCount : Nat
  split : Int
  traverseSpeed : Nat
  aCut : Nat
  aTraverse : Nat
  aEmergency : Nat
  closeAhead : Nat
  rMin : Nat
  ceiling : Nat
  tolerance : Nat
  standbyPressure : Nat
  startTimeout : Nat
  rampTimeout : Nat
  standbyDelay : Nat
  offDelay : Nat
  dipTime : Nat
  settleTime : Nat
  abrasiveLead : Nat
  abrasiveWindow : Nat
  valveTimeout : Nat
  zTimeout : Nat
  homingTimeout : Nat
  warnLimit : Nat
  faultLimit : Nat
  excursionThreshold : Nat
  overlap : Nat
  backtrackLimit : Nat
deriving DecidableEq, Repr

/-- The Material record as sent (Table 3-1); `method` is the byte of field 10. -/
structure MaterialReq where
  slot : Nat
  q1 : Nat
  q2 : Nat
  q3 : Nat
  q4 : Nat
  q5 : Nat
  pPierce : Nat
  pCut : Nat
  dwell : Nat
  method : Nat
  creepSpeed : Nat
  rate : Nat
  knee : Nat
  arcFloor : Nat
  cMin : Nat
deriving DecidableEq, Repr

/-- The Nozzle record as sent (Table 3-3). -/
structure NozzleReq where
  k0 : Nat
  growth : Nat
  kMax : Nat
  compare : Nat
  used : Nat
deriving DecidableEq, Repr

/-- The Template record as sent (Table 3-4); `direction` and `method` are the bytes of fields 7 and 10. -/
structure TemplateReq where
  slot : Nat
  width : Nat
  depth : Nat
  radius : Nat
  leadIn : Nat
  bridge : Nat
  direction : Nat
  quality : Nat
  material : Nat
  method : Nat
deriving DecidableEq, Repr

/-- The Segment record as sent (Tables 2-2 and 11-8); `kind` and `method` are bytes, and an optional field whose
presence flag is clear is `none` (R29). -/
structure SegmentReq where
  seq : SeqNo
  kind : Nat
  stop : Point
  centre : Point
  slot : Nat
  quality : Nat
  method : Option Nat
  report : Bool
  tag : Option Tag16
deriving DecidableEq, Repr

/-- The Place record as sent (Tables 4-1 and 11-9). -/
structure PlaceReq where
  seq : SeqNo
  template : Nat
  centre : Point
  turns : Nat
  slotOverride : Option Nat
  report : Bool
  tag : Option Tag16
deriving DecidableEq, Repr

/-- The sixteen requests of Table 11-3, each with its payload as sent. -/
inductive Request
  | configure (r : ConfigRec)
  | material (r : MaterialReq)
  | nozzle (r : NozzleReq)
  | template (r : TemplateReq)
  | segment (r : SegmentReq)
  | place (r : PlaceReq)
  | run
  | hold
  | resume
  | stop
  | clear
  | reference
  | pressure (level : Nat) (slot : Nat)
  | override (percent : Nat)
  | query
  | restart
deriving DecidableEq, Repr

/-- The commands: one constructor per row of spec/opcode_table.json. -/
inductive Instr
  /-- CONFIGURE (R22). -/
  | configure (tag : Byte) (r : ConfigRec)
  /-- MATERIAL (R51). -/
  | material (tag : Byte) (r : MaterialReq)
  /-- NOZZLE (R57). -/
  | nozzle (tag : Byte) (r : NozzleReq)
  /-- TEMPLATE (R60). -/
  | template (tag : Byte) (r : TemplateReq)
  /-- SEGMENT (R32). -/
  | segment (tag : Byte) (r : SegmentReq)
  /-- PLACE (R65). -/
  | place (tag : Byte) (r : PlaceReq)
  /-- RUN (R18). -/
  | run (tag : Byte)
  /-- HOLD (R13). -/
  | hold (tag : Byte)
  /-- RESUME (R17). -/
  | resume (tag : Byte)
  /-- STOP (R11). -/
  | stop (tag : Byte)
  /-- CLEAR (R8). -/
  | clear (tag : Byte)
  /-- REFERENCE (R20). -/
  | reference (tag : Byte)
  /-- PRESSURE (R152): the level byte and the material slot byte. -/
  | pressure (tag : Byte) (level : Nat) (slot : Nat)
  /-- OVERRIDE (R24): the requested percent before the clamp. -/
  | override (tag : Byte) (percent : Nat)
  /-- QUERY (R177). -/
  | query (tag : Byte)
  /-- RESTART (R26). -/
  | restart (tag : Byte)
  /-- RECEIVED_BYTE (R172). -/
  | receivedByte (b : Byte)
  /-- GAP_TIMER_EXPIRY (R172). -/
  | gapTimerExpiry
  /-- TRANSMIT_COMPLETE (R176). -/
  | transmitComplete
  /-- POWER_ON_RESET (R25). -/
  | powerOnReset
  /-- TRIP_INPUT_ACTIVE (R9). -/
  | tripInputActive (i : TripInput)
  /-- TRIP_INPUT_INACTIVE (R10). -/
  | tripInputInactive (i : TripInput)
  /-- RESIDENCY_EXPIRY (R8). -/
  | residencyExpiry
  /-- INTERPOLATION_PERIOD (R103), with what the feedback inputs and the home switches carry in that period: the
  drive counts of X and Y in µm and whether each switch is active. -/
  | interpolationPeriod (fbX fbY : Int) (homeX homeY : Bool)
  /-- HOMING_TIMEOUT (R117). -/
  | homingTimeout
  /-- Z_REACHED_CHANGE (R107): what the Z-reached input now names; `none` is NONE (Table 6-1). -/
  | zReachedChange (z : Option ZPos)
  /-- Z_TIMEOUT (R107). -/
  | zTimeout
  /-- DRIVE_READY_INACTIVE (R114). -/
  | driveReadyInactive (a : AxisName)
  /-- DRIVE_READY_ACTIVE (R114). -/
  | driveReadyActive (a : AxisName)
  /-- SETTLE_TIMER_EXPIRY (R123). -/
  | settleTimerExpiry
  /-- LEAD_TIMER_EXPIRY (R124). -/
  | leadTimerExpiry
  /-- DWELL_TIMER_EXPIRY (R125). -/
  | dwellTimerExpiry
  /-- VALVE_SWITCH_ACTIVE (R131). -/
  | valveSwitchActive
  /-- VALVE_SWITCH_INACTIVE (R129). -/
  | valveSwitchInactive
  /-- VALVE_TIMER_EXPIRY (R132). -/
  | valveTimerExpiry
  /-- ABRASIVE_PULSE (R135). -/
  | abrasivePulse
  /-- ABRASIVE_WINDOW_EXPIRY (R135). -/
  | abrasiveWindowExpiry
  /-- PUMP_RUNNING_ACTIVE (R146). -/
  | pumpRunningActive
  /-- PUMP_RUNNING_INACTIVE (R148). -/
  | pumpRunningInactive
  /-- START_TIMER_EXPIRY (R146). -/
  | startTimerExpiry
  /-- TRANSDUCER_READING (R147): the new reading in whole MPa. -/
  | transducerReading (mpa : Nat)
  /-- RAMP_TIMER_EXPIRY (R147). -/
  | rampTimerExpiry
  /-- BAND_TIMER_EXPIRY (R148). -/
  | bandTimerExpiry
  /-- STANDBY_TIMER_EXPIRY (R150). -/
  | standbyTimerExpiry
  /-- OFF_TIMER_EXPIRY (R151). -/
  | offTimerExpiry
  /-- GUARD_OPEN (R160). -/
  | guardOpen (z : Zone)
  /-- GUARD_CLOSED (R161). -/
  | guardClosed (z : Zone)
  /-- MINUTE_EVENT (R166). -/
  | minuteEvent
deriving DecidableEq, Repr

end Sys2Proof
end

