-- ==== Sys2Proof/Machine/State.lean ====
section
/-! DEFINITION. Machine/State.lean: everything the manual gives the part, as plain data, block by block in the order
of Table 0-1, the levels of the input lines as last seen, and the model's own two fields (the counter that feeds the
free values and the queue of waiting commands). Reset values are those of Table 1-9 and of the blocks' own tables. -/

namespace Sys2Proof.Machine

open Sys2Proof

/-! ## Why a step can stop -/

/-- The reasons the part could stop with a fault. There is none: the manual gives every command of the table its
effect in every state, and the faults and trips it speaks of are states of the part (R7, R9). Safe: no outcome is a
fault. -/
inductive Fault
deriving DecidableEq, Repr

/-- The reasons the model could refuse a command. -/
inductive Refusal
  /-- Raised by `exec`'s arms alone, for a command that has no meaning yet; no arm raises it. Safe. -/
  | notModelled (mnemonic : String)
deriving DecidableEq, Repr

/-! ## Job Controller (Chapter 1) -/

/-- Table 1-1, numbered 0 to 7 in this order by Table 11-2. -/
inductive CtrlState
  | unconfigured
  | idle
  | homing
  | run
  | hold
  | aborting
  | fault
  | trip
deriving DecidableEq, Repr

/-- Table 1-2, numbered 1 to 7 in this order by Table 11-2. -/
inductive Substate
  | moving
  | piercing
  | backtrack
  | zoneWait
  | starved
  | stopping
  | held
deriving DecidableEq, Repr

/-- A hold reason (R3), numbered 1 HOST, 2 ABRASIVE, 3 GUARD (Table 11-6). -/
inductive HoldReason
  | host
  | abrasive
  | guard
deriving DecidableEq, Repr

/-- The hold record (R3): the reason, and the guard zone when a GUARD condition was raised during the hold. -/
structure HoldRecord where
  reason : HoldReason
  zone : Option Zone
deriving DecidableEq, Repr

/-- The kinds of the fault record, numbered 1 to 13 in this order (Table 1-5). -/
inductive FaultKind
  | following
  | drive
  | pumpStart
  | pumpRamp
  | pressureLost
  | zTimeout
  | homing
  | abrasiveRepeat
  | valve
  | estop
  | overpressure
  | catcher
  | valveTrip
deriving DecidableEq, Repr

/-- The fault record (R6): kind, detail word and secondary count. -/
structure FaultRecord where
  kind : Option FaultKind
  detail : Nat
  secondary : Nat
deriving DecidableEq, Repr

/-- What the Job Controller holds (R3), less the Configure record (`State.config`) and the trip inputs
(`Lines`). The referenced flag is shared with the Axis Interface and has this one home. -/
structure Job where
  state : CtrlState
  sub : Option Substate
  hold : Option HoldRecord
  deferred : Bool
  fault : FaultRecord
  /-- Remaining ms of the residency timer; `none` when it is stopped or has expired (R8). -/
  residency : Option Nat
  override : Nat
  referenced : Bool
deriving DecidableEq, Repr

/-! ## Table Store (Chapter 3) -/

/-- The defined pierce methods; where a field may say DEFAULT it is an `Option`, DEFAULT being `none`. -/
inductive PierceMethod
  | stationary
  | moving
  | drilled
deriving DecidableEq, Repr

/-- A contour's direction (Table 3-4, field 7). -/
inductive Direction
  | cw
  | ccw
deriving DecidableEq, Repr

/-- A stored Material record: fields 2 to 15 of Table 3-1. -/
structure MaterialRec where
  q1 : Nat
  q2 : Nat
  q3 : Nat
  q4 : Nat
  q5 : Nat
  pPierce : Nat
  pCut : Nat
  dwell : Nat
  method : PierceMethod
  creepSpeed : Nat
  rate : Nat
  knee : Nat
  arcFloor : Nat
  cMin : Nat
deriving DecidableEq, Repr

/-- A stored Template record: fields 2 to 10 of Table 3-4. -/
structure TemplateRec where
  width : Nat
  depth : Nat
  radius : Nat
  leadIn : Nat
  bridge : Nat
  direction : Direction
  quality : Nat
  material : Nat
  method : Option PierceMethod
deriving DecidableEq, Repr

/-- The Nozzle record in force: fields 1 to 4 of Table 3-3. -/
structure NozzleRec where
  k0 : Nat
  growth : Nat
  kMax : Nat
  compare : Nat
deriving DecidableEq, Repr

/-- The Table Store (R49). -/
structure Tables where
  materials : Vector (Option MaterialRec) 8
  templates : Vector (Option TemplateRec) 16
  nozzle : Option NozzleRec
deriving DecidableEq, Repr

/-! ## Segment Queue (Chapter 2) -/

/-- Table 2-1. -/
inductive SegKind
  | traverse
  | line
  | arcCw
  | arcCcw
  | segEnd
deriving DecidableEq, Repr

/-- The circle of an arc: its centre, its radius rounded to the micrometre (R35), the angle swept in the arc's
direction in units of 2^-192 radian (log entry 7), and the direction. -/
structure ArcGeom where
  centre : Point
  radius : Nat
  sweep : Nat
  ccw : Bool
deriving DecidableEq, Repr

/-- The geometry of a piece of path: its end points, its circle if it is an arc, and its length in µm. -/
structure Shape where
  start : Point
  stop : Point
  arc : Option ArcGeom
  length : Nat
deriving DecidableEq, Repr

/-- A queue entry (Table 2-3). An END has no shape and length 0. `sent` is the pierce method field of a cutting
segment as sent (R29): absent, or present with DEFAULT (`some none`) or a method; an entry of an expansion has none. -/
structure QueueEntry where
  seq : SeqNo
  pidx : Option Nat
  kind : SegKind
  shape : Option Shape
  slot : Option Nat
  quality : Option Nat
  opens : Bool
  method : Option PierceMethod
  sent : Option (Option PierceMethod)
  report : Bool
  tag : Option Tag16
deriving DecidableEq, Repr

/-- A history entry (Table 2-4). `contour` holds the contour start and end of a cutting entry; `limit` the segment
speed limit the planner applied, absent for an END, which has none (R85). -/
structure HistEntry where
  seq : SeqNo
  pidx : Option Nat
  kind : SegKind
  shape : Shape
  contour : Option (Nat × Nat)
  limit : Option Nat
  pressures : Option (Nat × Nat)
  rate : Option Nat
  opens : Bool
deriving DecidableEq, Repr

/-- A partial entry of the Recovery Path (R47). -/
structure Partial where
  seq : SeqNo
  pidx : Option Nat
  shape : Shape
  cStart : Nat
  cEnd : Nat
  limit : Nat
  pPierce : Nat
  pCut : Nat
  rate : Nat
deriving DecidableEq, Repr

/-- The Segment Queue (R30). The tail side is CUT when `tailCut` is set and OFF otherwise. `recBack` is set while the
head still has the backtrack before it (R48): the head's place on a Recovery Path is measured back from its end then,
and forward from the start of its first entry otherwise. -/
structure SegQueue where
  entries : List QueueEntry
  expected : SeqNo
  uses : Vector Nat 8
  tailPos : Option Point
  tailCut : Bool
  progress : Nat
  history : List HistEntry
  recPath : List Partial
  recBack : Bool
deriving DecidableEq, Repr

/-! ## Feed Planner (Chapter 5) -/

/-- What a stretch of the plan path is made of (Table 5-1). -/
inductive LegKind
  | approach
  | backtrack
  | recut
  | entry
deriving DecidableEq, Repr

/-- One entry of the plan path with its segment speed limit, and the limit and deflection of the junction at its end
(Table 5-1). `base` is the progress within the entry at which the leg begins, and `len` its length from there. An END
has no shape. `former` and `formerJunction` are the two limits that stand up to a transition point (R93). -/
structure Leg where
  kind : LegKind
  cutting : Bool
  opens : Bool
  isEnd : Bool
  shape : Option Shape
  base : Nat
  len : Nat
  limit : Nat
  former : Nat
  junction : Nat
  formerJunction : Nat
  delta : Option Nat
deriving DecidableEq, Repr

/-- Kinds of planned stop (Table 5-4). -/
inductive StopKind
  | queueEnd
  | jetOff
  | pierce
  | segEnd
  | hold
  | zone
  | creep
  | restart
  | abort
deriving DecidableEq, Repr

/-- A planned stop (R88): its kind, its position in µm along the plan path, the deceleration planned before it, its
committed flag, the zone recorded with a ZONE stop, and whether it lies inside a contour. -/
structure Stop where
  kind : StopKind
  pos : Int
  decel : Nat
  committed : Bool
  zone : Option Zone
  inside : Bool
deriving DecidableEq, Repr

/-- A point behind which the forward bound starts again, and the speed there (R90). -/
structure Anchor where
  pos : Int
  speed : Nat
deriving DecidableEq, Repr

/-- A transition point (R93): its position, the override percent whose limits stand up to it, and the limit to which
the head slows there. -/
structure Transition where
  pos : Int
  former : Nat
  after : Nat
deriving DecidableEq, Repr

/-- The creep stretch of a MOVING pierce (R91): its creep limit and its end. -/
structure Creep where
  limit : Nat
  stop : Int
deriving DecidableEq, Repr

/-- The plan (R81, Table 5-1). Positions are whole µm along the plan path, counted from the start of its first leg;
they may be negative, since what lies behind still bounds the speed. `approach` is the approach of R31. The closed
zones of Table 5-1 are those of the Zone Unit, which has their one home. -/
structure Plan where
  approach : Option Shape
  legs : List Leg
  stops : List Stop
  holdStop : Option Stop
  transition : Option Transition
  creep : Option Creep
  closePoint : Option Int
  anchors : List Anchor
deriving DecidableEq, Repr

/-! ## Axis Interface (Chapter 6) -/

/-- A stop point of R110: the path held up to it, the head's position on that path in sixtieths of a µm, the stop's
position in µm from the start of the held path, the deceleration, and the speed at which the head was moving. -/
structure StopRun where
  legs : List Leg
  pos60 : Nat
  at_ : Nat
  decel : Nat
  vmax : Nat
deriving DecidableEq, Repr

/-- The motion of one axis on its own line during a reference run (R115, R116): from set-point `start` in direction
`dir` (+1 or -1), the distance run in sixtieths of a µm, the present speed, the length to the point where it stops
(`none` while it seeks), the speed it began with, its speed limit and its acceleration. -/
structure LineRun where
  start : Int
  dir : Int
  pos60 : Nat
  speed : Nat
  len : Option Nat
  v0 : Nat
  vmax : Nat
  acc : Nat
deriving DecidableEq, Repr

/-- Table 6-3, with RETURNING in its two parts: stopping past the switch, and coming back. -/
inductive HomingPhase
  | raising
  | seeking
  | returningStop
  | returningBack
  | home
deriving DecidableEq, Repr

/-- One axis of a reference run. -/
structure AxisHoming where
  phase : HomingPhase
  run : Option LineRun
deriving DecidableEq, Repr

/-- The homing state (Table 6-2, Section 6.7): both axes, the homing timer, and whether the run has been ended and
its axes are coming to rest (R117). -/
structure Homing where
  x : AxisHoming
  y : AxisHoming
  timer : Option Nat
  ending : Bool
deriving DecidableEq, Repr

/-- Axis Interface state (Table 6-2). The referenced flag is `Job.referenced`. -/
structure Axis where
  offset : Point
  setPoint : Point
  actual : Point
  /-- Path position along the plan path, in sixtieths of a µm from the start of its first leg. -/
  pathPos : Nat
  speed : Nat
  stopRun : Option StopRun
  frozen : Bool
  zCmd : ZPos
  zConfirmed : Bool
  zTimer : Option Nat
  excursions : Nat
  threshold : Bool
  beyondX : Bool
  beyondY : Bool
  homing : Option Homing
deriving DecidableEq, Repr

/-! ## Jet Sequencer (Chapter 7) -/

/-- Table 7-2, numbered 0 to 6 in this order (Table 11-10). -/
inductive JetState
  | closed
  | preparing
  | feeding
  | dwell
  | ramping
  | opened
  | closing
deriving DecidableEq, Repr

/-- A sequence's kind (R122). -/
inductive SeqKind
  | pierce
  | restart
deriving DecidableEq, Repr

/-- The stage timer that runs in a sequence, with its remaining ms. -/
inductive StageTimer
  | settle (ms : Nat)
  | lead (ms : Nat)
  | dwell (ms : Nat)
deriving DecidableEq, Repr

/-- The sequence record (Table 7-3, R122). `entry` is the entry about to be cut, by sequence number and placement
index. -/
structure SeqRecord where
  kind : SeqKind
  method : Option PierceMethod
  entry : SeqNo × Option Nat
  pPierce : Nat
  pCut : Nat
  dwell : Nat
  creepSpeed : Nat
  rate : Nat
  timer : Option StageTimer
deriving DecidableEq, Repr

/-- The contour record (Table 7-3): the contour start of the executing entry and the contour's pierce method. -/
structure ContourRec where
  start : Nat
  method : Option PierceMethod
deriving DecidableEq, Repr

/-- The recovery record (Table 7-3). -/
structure RecoveryRec where
  isPending : Bool
  sStop : Nat
  sR : Nat
  short : Bool
deriving DecidableEq, Repr

/-- Jet Sequencer state (Table 7-3). `rate` is the abrasive rate in force, which outlives the sequence record until
the jet next closes (R128), as does `cutEntry`, the entry the jet was opened for, which the head
has begun by that (R159). The valve timer holds the remaining ms and the controller state in force at its start. -/
structure Jet where
  state : JetState
  seq : Option SeqRecord
  cutEntry : Option (SeqNo × Option Nat)
  rate : Nat
  incomplete : Bool
  contour : Option ContourRec
  armed : Bool
  window : Option Nat
  lastPulse : Option Nat
  recovery : Option RecoveryRec
  valveTimer : Option (Nat × CtrlState)
deriving DecidableEq, Repr

/-! ## Pump Manager (Chapter 8) -/

/-- A pump level, numbered 0 to 3 in this order (Table 11-10). -/
inductive Level
  | off
  | standby
  | pierce
  | cut
deriving DecidableEq, Repr

/-- A level with the pressure PIERCE and CUT keep (R144); 0 for OFF and STANDBY. -/
structure LevelReq where
  level : Level
  pressure : Nat
deriving DecidableEq, Repr

/-- The pump states, numbered 0 to 3 in this order (R142, Table 11-10). -/
inductive PumpState
  | off
  | starting
  | ramping
  | steady
deriving DecidableEq, Repr

/-- The band timer (R148, R149): remaining ms, whether it times a dip, and the lowest reading of the dip. -/
structure Band where
  ms : Nat
  dip : Bool
  lowest : Nat
deriving DecidableEq, Repr

/-- Pump Manager state (Table 8-2). The run command is STOP in OFF and RUN otherwise (R142). `rampFrom` is the code
the pump held when the ramp began, which the wake pending flag reads (R155). `formerTolerance` is the tolerance that
still judges the last reading after a Configure has replaced the record, until the next reading (R154). -/
structure Pump where
  state : PumpState
  target : LevelReq
  current : Level
  code : Nat
  rampFrom : Nat
  latch : Option LevelReq
  startTimer : Option Nat
  rampTimer : Option Nat
  standbyTimer : Option Nat
  offTimer : Option Nat
  band : Option Band
  valveOpen : Bool
  inSequence : Bool
  formerTolerance : Option Nat
deriving DecidableEq, Repr

/-! ## Zone Unit (Chapter 9) -/

/-- A lamp's indication, numbered 0 to 4 in this order (Table 11-10). -/
inductive Lamp
  | off
  | ready
  | active
  | loading
  | attention
deriving DecidableEq, Repr

/-- Zone Unit state (Table 9-2). The zone count and split are fields 7 and 8 of the Configure record in force, and
the guard states are the input lines'; each has its one home there. -/
structure ZoneUnit where
  closedA : Bool
  closedB : Bool
  lampA : Lamp
  lampB : Lamp
deriving DecidableEq, Repr

/-! ## Wear Counter (Chapter 10) -/

/-- Wear Counter state (Table 10-1). -/
structure Wear where
  residue : Nat
  seconds : Nat
  minutes : Nat
  timing : Bool
  alarm : Bool
  kerf : Nat
deriving DecidableEq, Repr

/-! ## Link Port (Chapter 11) -/

/-- The expansion summary of R79. -/
structure PlaceSummary where
  count : Nat
  kerf : Nat
  enlarged : Bool
  leadInClamped : Bool
  bridgeClamped : Bool
  radius : Nat
  leadIn : Nat
  bridge : Nat
deriving DecidableEq, Repr

/-- The Status record (Table 11-7). -/
structure Status where
  state : CtrlState
  sub : Option Substate
  holdReason : Option HoldReason
  guardZone : Option Zone
  fault : FaultRecord
  actual : Point
  zCmd : ZPos
  zConfirmed : Bool
  head : Option (SeqNo × Option Nat)
  fill : Nat
  free : Nat
  expected : SeqNo
  pumpState : PumpState
  target : Level
  code : Nat
  reading : Nat
  jet : JetState
  feeder : Bool
  guardA : Bool
  lampA : Lamp
  guardB : Bool
  lampB : Lamp
  kerf : Nat
  minutes : Nat
  excursions : Nat
  linkErrors : Nat
  override : Nat
  referenced : Bool
  wakePending : Bool
  alarm : Bool
  deferred : Bool
deriving DecidableEq, Repr

/-- What a reply carries after its common part (R174). -/
inductive ReplyBody
  | none
  | place (s : PlaceSummary)
  | status (s : Status)
deriving DecidableEq, Repr

/-- Result codes, numbered 0 to 13 in this order (Table 11-5). -/
inductive ResultCode
  | ok
  | noEffect
  | wrongState
  | queueFull
  | sequence
  | range
  | noSlot
  | inUse
  | notReferenced
  | residency
  | causePresent
  | tripActive
  | badLength
  | unknownKind
deriving DecidableEq, Repr

/-- A reply (Table 11-4), its content fixed when it is formed (R173). -/
structure Reply where
  tag : Byte
  kind : Nat
  code : ResultCode
  detail : BitVec 16
  state : CtrlState
  sub : Option Substate
  free : Nat
  expected : SeqNo
  deferred : Bool
  body : ReplyBody
deriving DecidableEq, Repr

/-- A report's content (Table 11-6). -/
inductive Report
  | state (st : CtrlState) (sub : Option Substate) (fromSt : CtrlState) (fromSub : Option Substate)
  | hold (reason : Option HoldReason) (zone : Option Zone)
  | fault (r : FaultRecord)
  | retired (seq : SeqNo) (pidx : Option Nat) (tag : Option Tag16)
  | pressure (st : PumpState) (target current : Level) (code reading : Nat) (latch : Option Level) (wake : Bool)
  | zone (guardA : Bool) (lampA : Lamp) (guardB : Bool) (lampB : Lamp)
  | wear (minutes compare kerf : Nat) (alarm : Bool)
  | recovery (entry : Option (SeqNo × Option Nat)) (sStop sR recut lastPulse : Nat) (short : Bool)
deriving DecidableEq, Repr

/-- A member of the Pending Report Set (R175). -/
structure Member where
  report : Report
  superseded : Nat
deriving DecidableEq, Repr

/-- The reset kind of an Announce record, 1 POWER_ON or 2 WARM (R178). -/
inductive ResetKind
  | powerOn
  | warm
deriving DecidableEq, Repr

/-- An Announce record that waits: its content beyond the fixed name and capacities (R27), and how many replies of
the Reply List go before it (R178). -/
structure Announce where
  ahead : Nat
  kind : ResetKind
  configured : Bool
  tablesKept : Bool
  wearKept : Bool
  referenced : Bool
  state : CtrlState
deriving DecidableEq, Repr

/-- The record the transmitter is sending. -/
inductive TxRecord
  | reply (r : Reply)
  | report (m : Member)
  | announce (a : Announce)
deriving DecidableEq, Repr

/-- The class of the last record finished (R171). -/
inductive TxClass
  | reply
  | report
deriving DecidableEq, Repr

/-- The phases of the receive framer (R171). -/
inductive Phase
  | hunt
  | sync
  | header
  | payload
  | check
deriving DecidableEq, Repr

/-- Link Port state (R171). `held` is the frame being assembled from offset 2 on. -/
structure Link where
  phase : Phase
  held : List Byte
  gap : Option Nat
  replies : List Reply
  reports : List Member
  announces : List Announce
  tx : Option TxRecord
  lastClass : Option TxClass
  errors : Nat
deriving DecidableEq, Repr

/-! ## Input lines (Section 0.2.2) -/

/-- The levels of the input lines as last seen: the trip input state (R3), the drive-ready, Z-reached, home switch
and feedback inputs (Table 6-1), the pump-running input and the last transducer reading (Table 8-1), the valve-closed
switch (Table 7-1) and the guard state of each zone, set when OPEN (Table 9-1). -/
structure Lines where
  estop : Bool
  overpressure : Bool
  catcher : Bool
  readyX : Bool
  readyY : Bool
  readyZ : Bool
  zReached : Option ZPos
  homeX : Bool
  homeY : Bool
  feedback : Point
  pumpRunning : Bool
  reading : Nat
  valveClosed : Bool
  guardA : Bool
  guardB : Bool
deriving DecidableEq, Repr

/-! ## The whole -/

/-- The state of the part, block by block. `freeCount` is the model's own counter, which feeds the free values (log
entry 2), and `pending` the queue of waiting commands, first in, first out (log entry 1). -/
structure State where
  job : Job
  config : Option ConfigRec
  tables : Tables
  queue : SegQueue
  plan : Plan
  axis : Axis
  jet : Jet
  pump : Pump
  zone : ZoneUnit
  wear : Wear
  link : Link
  lines : Lines
  freeCount : Nat
  pending : List Instr
deriving DecidableEq, Repr

/-! ## Power-on values -/

/-- The fault record with nothing recorded (R6). -/
def FaultRecord.cleared : FaultRecord := { kind := none, detail := 0, secondary := 0 }

/-- The Segment Queue after either reset (R30). -/
def SegQueue.empty : SegQueue :=
  { entries := [], expected := 0, uses := Vector.replicate 8 0, tailPos := none, tailCut := false, progress := 0,
    history := [], recPath := [], recBack := false }

/-- The empty plan (R81). -/
def Plan.empty : Plan :=
  { approach := none, legs := [], stops := [], holdStop := none, transition := none, creep := none, closePoint := none,
    anchors := [] }

/-- The levels of the input lines at `State.reset`: a machine at rest with every line healthy. DESIGN CHOICE (log
entry 4): the manual leaves them to the machine. -/
def Lines.atRest : Lines :=
  { estop := false, overpressure := false, catcher := false, readyX := true, readyY := true, readyZ := true,
    zReached := some .clear, homeX := false, homeY := false, feedback := ⟨0, 0⟩, pumpRunning := false, reading := 0,
    valveClosed := true, guardA := false, guardB := false }

/-- The part right after power-on reset (R25, Table 1-9), with the input lines at rest: the transmitter has begun the
Announce record (R178). -/
def State.reset : State :=
  { job := { state := .unconfigured, sub := none, hold := none, deferred := false, fault := FaultRecord.cleared,
             residency := none, override := 100, referenced := false }
    config := none
    tables := { materials := Vector.replicate 8 none, templates := Vector.replicate 16 none, nozzle := none }
    queue := SegQueue.empty
    plan := Plan.empty
    axis := { offset := ⟨0, 0⟩, setPoint := ⟨0, 0⟩, actual := ⟨0, 0⟩, pathPos := 0, speed := 0, stopRun := none,
              frozen := false, zCmd := .clear, zConfirmed := true, zTimer := none, excursions := 0,
              threshold := false, beyondX := false, beyondY := false, homing := none }
    jet := { state := .closed, seq := none, cutEntry := none, rate := 0, incomplete := false, contour := none, armed := false,
             window := none, lastPulse := none, recovery := none, valveTimer := none }
    pump := { state := .off, target := ⟨.off, 0⟩, current := .off, code := 0, rampFrom := 0, latch := none,
              startTimer := none, rampTimer := none, standbyTimer := none, offTimer := none, band := none,
              valveOpen := false, inSequence := false, formerTolerance := none }
    zone := { closedA := false, closedB := false, lampA := .off, lampB := .off }
    wear := { residue := 0, seconds := 0, minutes := 0, timing := false, alarm := false, kerf := 0 }
    link := { phase := .hunt, held := [], gap := none, replies := [], reports := [], announces := []
              tx := some (.announce { ahead := 0, kind := .powerOn, configured := false, tablesKept := false,
                                      wearKept := false, referenced := false, state := .unconfigured })
              lastClass := none, errors := 0 }
    lines := Lines.atRest
    freeCount := 0
    pending := [] }

end Sys2Proof.Machine
end

