-- ==== Sys2Proof/Machine/Geometry.lean ====
section
/-! DEFINITION. Machine/Geometry.lean: the measures of a segment (R35), the extents of an arc (R35), the point at a
distance along a shape (R47, R105, R106) and the deflection at a junction (R86). Directions are compared exactly, by
cross and dot products of integer vectors; only angles and points on a circle go through the fixed point of Arith. -/

namespace Sys2Proof.Machine

open Sys2Proof

/-- A displacement. -/
abbrev Vec := Point

/-- The displacement from `p` to `q`. -/
def vecTo (p q : Point) : Vec := ⟨q.x - p.x, q.y - p.y⟩

/-- The squared length of a displacement. -/
def normSq (v : Vec) : Nat := v.x.natAbs * v.x.natAbs + v.y.natAbs * v.y.natAbs

/-- The distance between two points, rounded to the nearest µm (R35). -/
def distance (p q : Point) : Nat := roundSqrt (normSq (vecTo p q))

/-- Positive when `w` lies counter-clockwise of `v`. -/
def cross (v w : Vec) : Int := v.x * w.y - v.y * w.x

/-- Positive when `w` points less than a right angle away from `v`. -/
def dot (v w : Vec) : Int := v.x * w.x + v.y * w.y

/-- Mirrored about the X axis, which exchanges clockwise and counter-clockwise. -/
def mirror (v : Vec) : Vec := ⟨v.x, -v.y⟩

/-! ## Measures (R35) -/

/-- The angle turned from direction `u` to direction `w`, counter-clockwise or clockwise, in [0, 2π) and in units of
2^-192 radian. -/
def turn (ccw : Bool) (u w : Vec) : Nat :=
  angleOf (if ccw then cross u w else -(cross u w)) (dot u w)

/-- The sweep of an arc: one full turn when its end equals its start, below that otherwise (R35). -/
def sweepOf (ccw : Bool) (start centre stop : Point) : Nat :=
  if start = stop then 2 * piScaled else turn ccw (vecTo centre start) (vecTo centre stop)

/-- The length of an arc: radius times sweep, rounded to the nearest µm (R35). -/
def arcLength (radius sweep : Nat) : Nat := (2 * (radius * sweep) + unit) / (2 * unit)

/-- The shape of a straight segment or traverse (R35). -/
def straightShape (start stop : Point) : Shape :=
  { start := start, stop := stop, arc := none, length := distance start stop }

/-- The shape of an arc segment (R35). -/
def arcShape (ccw : Bool) (start centre stop : Point) : Shape :=
  let radius := distance start centre
  let sweep := sweepOf ccw start centre stop
  { start := start, stop := stop, arc := some { centre := centre, radius := radius, sweep := sweep, ccw := ccw },
    length := arcLength radius sweep }

/-! ## Extents (R35, R158) -/

/-- Where direction `v` lies when turning counter-clockwise from `u`: at the start, within the first half turn, at the
half turn, or beyond it. -/
def turnClass (u v : Vec) : Nat :=
  if cross u v = 0 then (if 0 < dot u v then 0 else 2) else if 0 < cross u v then 1 else 3

/-- Turning counter-clockwise from `u`, direction `d` is reached no later than direction `w`. -/
def reachedBy (u w d : Vec) : Bool :=
  decide (turnClass u d < turnClass u w) || (turnClass u d == turnClass u w && decide (0 ≤ cross d w))

/-- The sweep of an arc passes a direction: it reaches or crosses it; a full circle passes every direction (R35). -/
def sweepPasses (a : ArcGeom) (start stop : Point) (d : Vec) : Bool :=
  let u := vecTo a.centre start
  let w := vecTo a.centre stop
  if start = stop ∧ 0 < a.sweep then true
  else if a.ccw then reachedBy u w d else reachedBy (mirror u) (mirror w) (mirror d)

/-- The same test by the angle swept, for a partial entry whose end points are rounded (R158). -/
def sweepPassesByAngle (a : ArcGeom) (start : Point) (d : Vec) : Bool :=
  decide (turn a.ccw (vecTo a.centre start) d ≤ a.sweep)

/-- The least and greatest of two coordinates and those extremes of a circle that the sweep passes. -/
def extentOf (s e c : Int) (r : Nat) (low high : Bool) : Int × Int :=
  let lo := min s e
  let hi := max s e
  (if low then min lo (c - r) else lo, if high then max hi (c + r) else hi)

/-- The x-extent of a shape, its arc judged by `passes` (R35, R158). -/
def xExtentBy (passes : ArcGeom → Vec → Bool) (s : Shape) : Int × Int :=
  match s.arc with
  | none => (min s.start.x s.stop.x, max s.start.x s.stop.x)
  | some a => extentOf s.start.x s.stop.x a.centre.x a.radius (passes a ⟨-1, 0⟩) (passes a ⟨1, 0⟩)

/-- The x-extent of an entry (R35): the extremes at 180° and 0° count when the sweep passes them. -/
def xExtent (s : Shape) : Int × Int := xExtentBy (fun a d => sweepPasses a s.start s.stop d) s

/-- The x-extent of a partial entry (R158). -/
def xExtentPartial (s : Shape) : Int × Int := xExtentBy (fun a d => sweepPassesByAngle a s.start d) s

/-- The y-extent of an entry (R35), with the directions 270° and 90°. -/
def yExtent (s : Shape) : Int × Int :=
  match s.arc with
  | none => (min s.start.y s.stop.y, max s.start.y s.stop.y)
  | some a =>
    extentOf s.start.y s.stop.y a.centre.y a.radius (sweepPasses a s.start s.stop ⟨0, -1⟩)
      (sweepPasses a s.start s.stop ⟨0, 1⟩)

/-! ## Points along a shape (R47, R105, R106) -/

/-- The point at distance `d` along a straight shape, each coordinate rounded to the nearest µm (R105). -/
def pointOnLine (s : Shape) (d : Nat) : Point :=
  if s.length = 0 then s.stop
  else
    let along (a b : Int) : Int := roundDiv (a * s.length + d * (b - a)) s.length
    ⟨along s.start.x s.stop.x, along s.start.y s.stop.y⟩

/-- The point on the circle at `d / radius` radians from the start direction, turned in the arc's direction, each
coordinate rounded to the nearest µm (R106). -/
def pointOnArc (start : Point) (a : ArcGeom) (d : Nat) : Point :=
  let u := vecTo a.centre start
  let rho := isqrt (normSq u * (unit * unit))
  if a.radius = 0 ∨ rho = 0 then a.centre
  else
    let θ := d * unit / a.radius
    let c := cosScaled θ
    let n := if a.ccw then sinScaled θ else -(sinScaled θ)
    let off (centre part : Int) : Int := roundDiv (centre * rho + a.radius * part) rho
    ⟨off a.centre.x (u.x * c - u.y * n), off a.centre.y (u.x * n + u.y * c)⟩

/-- The point at distance `d` along a shape (R47, R105, R106). -/
def pointAt (s : Shape) (d : Nat) : Point :=
  match s.arc with
  | none => pointOnLine s d
  | some a => pointOnArc s.start a d

/-! ## Deflection (R86) -/

/-- The tangent of an arc at the end of `radius`, a vector from its centre. -/
def arcTangent (ccw : Bool) (radius : Vec) : Vec := if ccw then ⟨-radius.y, radius.x⟩ else ⟨radius.y, -radius.x⟩

/-- The tangent of a shape where it is entered; an entry of length 0 has none (R86). -/
def entryTangent (s : Shape) : Option Vec :=
  if s.length = 0 then none
  else match s.arc with
    | none => some (vecTo s.start s.stop)
    | some a => some (arcTangent a.ccw (vecTo a.centre s.start))

/-- The tangent of a shape where it is left. -/
def exitTangent (s : Shape) : Option Vec :=
  if s.length = 0 then none
  else match s.arc with
    | none => some (vecTo s.start s.stop)
    | some a => some (arcTangent a.ccw (vecTo a.centre s.stop))

/-- A tangent reversed, as the backtrack travels it (R86). -/
def reversed (v : Vec) : Vec := ⟨-v.x, -v.y⟩

/-- The angle between two tangents in tenths of a degree, 0 to 1800, rounded to the nearest (R86). -/
def deflectionOf (v w : Vec) : Nat :=
  (2 * (1800 * angleOf ((cross v w).natAbs : Int) (dot v w)) + piScaled) / (2 * piScaled)

/-- The deflection at a junction; absent when either side has no tangent. -/
def deflection (exit entry : Option Vec) : Option Nat :=
  match exit, entry with
  | some v, some w => if normSq v = 0 ∨ normSq w = 0 then none else some (deflectionOf v w)
  | _, _ => none

end Sys2Proof.Machine
end

