-- ==== Sys2Proof/Machine/Operands.lean ====
section
/-! DEFINITION. Machine/Operands.lean: the operand forms of the requests: what each raw field of a record may hold,
checked in the order its table gives, the first field out of range naming the refusal (R22, R51, R56, R60, R37), and the
enumerated values of Table 11-10. -/

namespace Sys2Proof.Machine

open Sys2Proof

/-- The number of the first field whose check fails. -/
def firstFault : List (Nat × Bool) → Option Nat
  | [] => none
  | (n, ok) :: rest => if ok then firstFault rest else some n

/-- `n` lies in a range, bounds included. -/
def within (lo hi n : Nat) : Bool := decide (lo ≤ n) && decide (n ≤ hi)

/-- A position in the range of Table 0-2. -/
def position (i : Int) : Bool := decide (-4000000 ≤ i) && decide (i ≤ 4000000)

/-- An integer lies in a range, bounds included. -/
def withinI (lo hi i : Int) : Bool := decide (lo ≤ i) && decide (i ≤ hi)

/-! ## Enumerated values (Table 11-10) -/

/-- A segment kind. -/
def segKindOf : Nat → Option SegKind
  | 0 => some .traverse
  | 1 => some .line
  | 2 => some .arcCw
  | 3 => some .arcCcw
  | 4 => some .segEnd
  | _ => none

/-- A pierce method byte; the inner `none` is DEFAULT. -/
def methodOf : Nat → Option (Option PierceMethod)
  | 0 => some none
  | 1 => some (some .stationary)
  | 2 => some (some .moving)
  | 3 => some (some .drilled)
  | _ => none

/-- A direction byte. -/
def directionOf : Nat → Option Direction
  | 0 => some .cw
  | 1 => some .ccw
  | _ => none

/-- LINE, ARC_CW and ARC_CCW are the cutting segments (Section 2.1). -/
def SegKind.cutting : SegKind → Bool
  | .line => true
  | .arcCw => true
  | .arcCcw => true
  | .traverse => false
  | .segEnd => false

/-! ## Record checks -/

/-- The fields of a Configure record in the order of Table 1-8, relations at the later field (R22). -/
def configChecks (r : ConfigRec) : List (Nat × Bool) :=
  [(1, position r.xMin),
   (2, position r.xMax && decide (500000 ≤ r.xMax - r.xMin)),
   (3, position r.yMin),
   (4, position r.yMax && decide (500000 ≤ r.yMax - r.yMin)),
   (5, withinI r.xMin r.xMax r.homeX),
   (6, withinI r.yMin r.yMax r.homeY),
   (7, within 1 2 r.zoneCount),
   (8, r.zoneCount != 2 || (decide (r.xMin < r.split) && decide (r.split < r.xMax))),
   (9, within 1000 30000 r.traverseSpeed),
   (10, within 5 500 r.aCut),
   (11, within 50 3000 r.aTraverse && decide (r.aCut ≤ r.aTraverse)),
   (12, within 100 5000 r.aEmergency && decide (r.aTraverse ≤ r.aEmergency)),
   (13, within 0 5000 r.closeAhead),
   (14, within 200 5000 r.rMin),
   (15, within 100 600 r.ceiling),
   (16, within 5 30 r.tolerance)]
  ++ [(17, within 20 100 r.standbyPressure),
   (18, within 1000 30000 r.startTimeout),
   (19, within 1000 20000 r.rampTimeout),
   (20, within 0 3600000 r.standbyDelay),
   (21, within 0 3600000 r.offDelay),
   (22, within 20 2000 r.dipTime),
   (23, within 0 5000 r.settleTime),
   (24, within 0 3000 r.abrasiveLead),
   (25, within 500 10000 r.abrasiveWindow),
   (26, within 50 1000 r.valveTimeout),
   (27, within 200 5000 r.zTimeout),
   (28, within 5000 120000 r.homingTimeout),
   (29, within 10 2000 r.warnLimit),
   (30, within (r.warnLimit + 1) 10000 r.faultLimit),
   (31, within 1 10000 r.excursionThreshold),
   (32, within 0 20000 r.overlap),
   (33, within 1000 100000 r.backtrackLimit)]

/-- Fields 2 to 15 of a Material record in the order of Table 3-1, relations at the later field (R51). -/
def materialChecks (r : MaterialReq) : List (Nat × Bool) :=
  [(2, within 10 20000 r.q1),
   (3, within 10 20000 r.q2 && decide (r.q2 ≤ r.q1)),
   (4, within 10 20000 r.q3 && decide (r.q3 ≤ r.q2)),
   (5, within 10 20000 r.q4 && decide (r.q4 ≤ r.q3)),
   (6, within 10 20000 r.q5 && decide (r.q5 ≤ r.q4)),
   (7, within 20 600 r.pPierce),
   (8, within 20 600 r.pCut && decide (r.pPierce ≤ r.pCut)),
   (9, within 0 60000 r.dwell),
   (10, within 1 3 r.method),
   (11, within 1 2000 r.creepSpeed),
   (12, within 0 1000 r.rate),
   (13, within 0 200000 r.knee),
   (14, within 10 100 r.arcFloor),
   (15, within 10 100 r.cMin)]

/-- The fields of a Nozzle record in the order of Table 3-3 (R56). -/
def nozzleChecks (r : NozzleReq) : List (Nat × Bool) :=
  [(1, within 200 3000 r.k0),
   (2, within 0 200 r.growth),
   (3, within r.k0 5000 r.kMax),
   (4, within 0 999999 r.compare),
   (5, within 0 999999 r.used)]

/-- Fields 2 to 10 of a Template record in the order of Table 3-4 (R60). -/
def templateChecks (r : TemplateReq) : List (Nat × Bool) :=
  [(2, within 20000 2000000 r.width),
   (3, within 20000 2000000 r.depth),
   (4, within 0 (min r.width r.depth / 2) r.radius),
   (5, within 0 100000 r.leadIn),
   (6, within 0 50000 r.bridge),
   (7, (directionOf r.direction).isSome),
   (8, within 1 5 r.quality),
   (9, within 0 7 r.material),
   (10, (methodOf r.method).isSome)]

/-- The stored form of a Material record that passed its checks (R52). -/
def materialRecOf (r : MaterialReq) : MaterialRec :=
  { q1 := r.q1, q2 := r.q2, q3 := r.q3, q4 := r.q4, q5 := r.q5, pPierce := r.pPierce, pCut := r.pCut, dwell := r.dwell,
    method := ((methodOf r.method).join).getD .stationary, creepSpeed := r.creepSpeed, rate := r.rate, knee := r.knee,
    arcFloor := r.arcFloor, cMin := r.cMin }

/-- The stored form of a Template record that passed its checks (R61). -/
def templateRecOf (r : TemplateReq) : TemplateRec :=
  { width := r.width, depth := r.depth, radius := r.radius, leadIn := r.leadIn, bridge := r.bridge,
    direction := (directionOf r.direction).getD .cw, quality := r.quality, material := r.material,
    method := (methodOf r.method).join }

/-- Fields 1 to 4 of a Nozzle record (R57). -/
def nozzleRecOf (r : NozzleReq) : NozzleRec :=
  { k0 := r.k0, growth := r.growth, kMax := r.kMax, compare := r.compare }

/-- The quality speed a quality selects (R83); qualities are 1 to 5. -/
def MaterialRec.speed (m : MaterialRec) : Nat → Nat
  | 1 => m.q1
  | 2 => m.q2
  | 3 => m.q3
  | 4 => m.q4
  | _ => m.q5

end Sys2Proof.Machine
end

