-- ==== Sys2Proof/Machine/Ops.lean ====
section
/-! DEFINITION. Machine/Ops.lean: the named operations the blocks share: reading the Configure record and the tables,
posting a report (R175), changing the controller state (R3) and the fault record (R6), and reading the queue. The
block has no exception entry; entering FAULT and TRIP are in Machine/Job.lean. -/

namespace Sys2Proof.Machine

open Sys2Proof

/-! ## Block updates: a state with one block replaced -/

/-- `s` with another Job Controller. -/
def State.setJob (s : State) (j : Job) : State := { s with job := j }
/-- `s` with another Segment Queue. -/
def State.setQueue (s : State) (q : SegQueue) : State := { s with queue := q }
/-- `s` with another plan. -/
def State.setPlan (s : State) (p : Plan) : State := { s with plan := p }
/-- `s` with another Axis Interface. -/
def State.setAxis (s : State) (a : Axis) : State := { s with axis := a }
/-- `s` with another Jet Sequencer. -/
def State.setJet (s : State) (j : Jet) : State := { s with jet := j }
/-- `s` with another Pump Manager. -/
def State.setPump (s : State) (p : Pump) : State := { s with pump := p }
/-- `s` with another Zone Unit. -/
def State.setZone (s : State) (z : ZoneUnit) : State := { s with zone := z }
/-- `s` with another Wear Counter. -/
def State.setWear (s : State) (w : Wear) : State := { s with wear := w }
/-- `s` with another Link Port. -/
def State.setLink (s : State) (l : Link) : State := { s with link := l }
/-- `s` with other input lines. -/
def State.setLines (s : State) (l : Lines) : State := { s with lines := l }
/-- `s` with other tables. -/
def State.setTables (s : State) (t : Tables) : State := { s with tables := t }
/-- `s` with another Configure record in force. -/
def State.setConfig (s : State) (c : Option ConfigRec) : State := { s with config := c }
/-- `s` with another content of the queue of waiting commands. -/
def State.setPending (s : State) (q : List Instr) : State := { s with pending := q }

/-! ## The Configure record and the tables -/

/-- A record of zeros, which stands where no Configure record is in force. No rule reads a limit there (R5, R112,
R120, R145): log entry 5. -/
def noConfig : ConfigRec :=
  { xMin := 0, xMax := 0, yMin := 0, yMax := 0, homeX := 0, homeY := 0, zoneCount := 0, split := 0, traverseSpeed := 0,
    aCut := 0, aTraverse := 0, aEmergency := 0, closeAhead := 0, rMin := 0, ceiling := 0, tolerance := 0,
    standbyPressure := 0, startTimeout := 0, rampTimeout := 0, standbyDelay := 0, offDelay := 0, dipTime := 0,
    settleTime := 0, abrasiveLead := 0, abrasiveWindow := 0, valveTimeout := 0, zTimeout := 0, homingTimeout := 0,
    warnLimit := 0, faultLimit := 0, excursionThreshold := 0, overlap := 0, backtrackLimit := 0 }

/-- The limits the blocks work to: the Configure record in force. -/
def State.cfg (s : State) : ConfigRec := s.config.getD noConfig

/-- The record a material slot holds; a number above 7 or an empty slot reads as absent (R54). -/
def State.material (s : State) (slot : Nat) : Option MaterialRec := (s.tables.materials[slot]?).join

/-- The record a template slot holds (R62). -/
def State.template (s : State) (slot : Nat) : Option TemplateRec := (s.tables.templates[slot]?).join

/-- The material of a queue entry, if it names a slot (R54). -/
def State.entryMaterial (s : State) (e : QueueEntry) : Option MaterialRec := e.slot.bind s.material

/-! ## The Segment Queue read -/

/-- Free slots: 256 less the number of entries (R34). -/
def State.free (s : State) : Nat := 256 - s.queue.entries.length

/-- The queue head, the executing entry in RUN and HOLD (R41). -/
def State.queueHead (s : State) : Option QueueEntry := s.queue.entries.head?

/-- What names a queue entry: its sequence number and placement index. -/
def QueueEntry.ref (e : QueueEntry) : SeqNo × Option Nat := (e.seq, e.pidx)

/-- The queue head is a cutting entry. -/
def State.headCutting (s : State) : Bool :=
  match s.queueHead with
  | some e => e.kind.cutting
  | none => false

/-! ## Reports (R175) -/

/-- The frame kind of a report, 90h to 97h (Table 11-6). -/
def Report.kindByte : Report → Nat
  | .state _ _ _ _ => 0x90
  | .hold _ _ => 0x91
  | .fault _ => 0x92
  | .retired _ _ _ => 0x93
  | .pressure _ _ _ _ _ _ _ => 0x94
  | .zone _ _ _ _ => 0x95
  | .wear _ _ _ _ => 0x96
  | .recovery _ _ _ _ _ _ => 0x97

/-- The content a member takes when a report of its kind is posted: a STATE report keeps the "from" of the member it
replaces (R3, R175), the other kinds take the new content whole. -/
def Report.replacing (old new : Report) : Report :=
  match old, new with
  | .state _ _ fs fu, .state st sub _ _ => .state st sub fs fu
  | _, r => r

/-- The Pending Report Set after a post: the member of the kind is replaced in place and its superseded count rises,
saturating at 255, or the report joins the tail (R175). -/
def postInto : List Member → Report → List Member
  | [], r => [{ report := r, superseded := 0 }]
  | m :: ms, r =>
    if m.report.kindByte = r.kindByte then
      { report := m.report.replacing r, superseded := satAdd 255 m.superseded 1 } :: ms
    else m :: postInto ms r

/-- A block posts a report to the Link Port. -/
def post (r : Report) (s : State) : State := s.setLink { s.link with reports := postInto s.link.reports r }

/-! ## Controller state and fault record -/

/-- The controller takes a state and substate; every change posts a STATE report (R3). -/
def setState (st : CtrlState) (sub : Option Substate) (s : State) : State :=
  if s.job.state = st ∧ s.job.sub = sub then s
  else post (.state st sub s.job.state s.job.sub) (s.setJob { s.job with state := st, sub := sub })

/-- The fault record takes a value; every change posts a FAULT report with the record as it then stands (R6). -/
def setFault (r : FaultRecord) (s : State) : State :=
  if s.job.fault = r then s else post (.fault r) (s.setJob { s.job with fault := r })

/-- The hold record is cleared or discarded: a HOLD report with reason 0 and guard zone absent (R15). -/
def clearHold (s : State) : State :=
  match s.job.hold with
  | none => s
  | some _ => post (.hold none none) (s.setJob { s.job with hold := none })

/-- The numbers of Table 1-5. -/
def FaultKind.number : FaultKind → Nat
  | .following => 1
  | .drive => 2
  | .pumpStart => 3
  | .pumpRamp => 4
  | .pressureLost => 5
  | .zTimeout => 6
  | .homing => 7
  | .abrasiveRepeat => 8
  | .valve => 9
  | .estop => 10
  | .overpressure => 11
  | .catcher => 12
  | .valveTrip => 13

/-- The numbers of Table 11-2's first two columns. -/
def CtrlState.number : CtrlState → Nat
  | .unconfigured => 0
  | .idle => 1
  | .homing => 2
  | .run => 3
  | .hold => 4
  | .aborting => 5
  | .fault => 6
  | .trip => 7

/-- The substate numbers of Table 11-2; 0 is absent. -/
def substateNumber : Option Substate → Nat
  | none => 0
  | some .moving => 1
  | some .piercing => 2
  | some .backtrack => 3
  | some .zoneWait => 4
  | some .starved => 5
  | some .stopping => 6
  | some .held => 7

/-- A further fault or trip adds 1 to the secondary count, saturating at 65,535; the kind is kept (R6). -/
def countSecondary (s : State) : State :=
  setFault { s.job.fault with secondary := satAdd 65535 s.job.fault.secondary 1 } s

/-- A further fault in FAULT: it adds 1 to the secondary count, and a FAULT report is posted whether or not the count
stands at its bound (R5). -/
def countInFault (s : State) : State :=
  let r := { s.job.fault with secondary := satAdd 65535 s.job.fault.secondary 1 }
  post (.fault r) (s.setJob { s.job with fault := r })

/-- The part is in RUN with the given substate. -/
def State.inRun (s : State) (sub : Substate) : Bool := s.job.state == .run && s.job.sub == some sub

/-- A configured state: a Configure record is in force (R112). -/
def State.configured (s : State) : Bool := s.config.isSome

end Sys2Proof.Machine
end

