-- ==== Sys2Proof/Machine/Pump.lean ====
section
/-! DEFINITION. Machine/Pump.lean: the Pump Manager's operations (Chapter 8): demand codes, level requests, start and
ramp, the band and dip watches, the ladder timers and the Job Controller's orders. What it reports to the Jet Sequencer
is read there from the pump's state; the faults it raises are raised by the commands' meanings. -/

namespace Sys2Proof.Machine

open Sys2Proof

/-- The ceiling code (R143). -/
def ceilingCode (c : ConfigRec) : Nat := c.ceiling / 5

/-- The demand code for a pressure (R143). -/
def codeFor (c : ConfigRec) (pressure : Nat) : Nat := min (pressure / 5) (ceilingCode c)

/-- The demand code of a level request (R143, R144). -/
def requestCode (c : ConfigRec) (r : LevelReq) : Nat :=
  match r.level with
  | .off => 0
  | .standby => codeFor c c.standbyPressure
  | .pierce => codeFor c r.pressure
  | .cut => codeFor c r.pressure

/-- The demand pressure of a code (R143). -/
def demand (code : Nat) : Nat := 5 * code

/-- The measured pressure is within tolerance of a code's demand pressure (R147). -/
def withinTolerance (tolerance code reading : Nat) : Bool :=
  decide (reading ≤ demand code + tolerance) && decide (demand code ≤ reading + tolerance)

/-- The tolerance that judges the last reading: that of the record in force, or of the record replaced since that
reading was taken (R154). -/
def State.readingTolerance (s : State) : Nat := s.pump.formerTolerance.getD s.cfg.tolerance

/-- The last reading is within tolerance of a code's demand pressure (R147, R154). -/
def readingFits (s : State) (code : Nat) : Bool := withinTolerance s.readingTolerance code s.lines.reading

/-- The wake pending flag (R155): a rise is outstanding. -/
def wakePending (c : ConfigRec) (p : Pump) : Bool :=
  p.state == .starting
  || (p.state == .ramping && decide (p.rampFrom < p.code))
  || (match p.latch with
      | some r => decide (p.code < requestCode c r)
      | none => false)

/-- The PRESSURE report (R155). -/
def pressureReport (s : State) : Report :=
  .pressure s.pump.state s.pump.target.level s.pump.current s.pump.code s.lines.reading
    (s.pump.latch.map LevelReq.level) (wakePending s.cfg s.pump)

/-- The pump takes new values; a change of pump state or of target level posts a PRESSURE report (R155). DESIGN CHOICE
(log entry 50): one change of both posts one report. -/
def pumpPut (p : Pump) (s : State) : State :=
  let s' := s.setPump p
  if s.pump.state = p.state ∧ s.pump.target.level = p.target.level then s' else post (pressureReport s') s'

/-! ## The ladder (R150, R151) -/

/-- The standby timer's three conditions hold together (R150). -/
def standbyRuns (p : Pump) : Bool :=
  p.state == .steady && (p.current == .pierce || p.current == .cut) && !p.valveOpen && !p.inSequence

/-- The off timer's conditions hold together (R151). -/
def offRuns (p : Pump) : Bool :=
  p.state == .steady && p.current == .standby && !p.valveOpen && !p.inSequence

/-- A ladder timer after a change: it starts when its conditions first hold, goes on while they do, stops when any
ceases, and with a delay of 0 never starts (R150). -/
def ladderTimer (runs : Bool) (delay : Nat) (t : Option Nat) : Option Nat :=
  if runs && decide (0 < delay) then some (t.getD delay) else none

/-- Both ladder timers follow the pump. -/
def ladder (s : State) : State :=
  s.setPump { s.pump with
    standbyTimer := ladderTimer (standbyRuns s.pump) s.cfg.standbyDelay s.pump.standbyTimer
    offTimer := ladderTimer (offRuns s.pump) s.cfg.offDelay s.pump.offTimer }

/-! ## Start, ramp and steady -/

/-- The pump stops: run command STOP, code 0, OFF, the latch discarded and every timer stopped (R145, R146, R147). -/
def pumpStop (s : State) : State :=
  pumpPut { s.pump with state := .off, target := ⟨.off, 0⟩, current := .off, code := 0, rampFrom := 0, latch := none,
                        startTimer := none, rampTimer := none, standbyTimer := none, offTimer := none, band := none } s

/-- The pump enters STEADY at its target level (R147). -/
def enterSteady (s : State) : State :=
  ladder (pumpPut { s.pump with state := .steady, current := s.pump.target.level, rampTimer := none } s)

/-- The pump, its values changed to `p`, enters RAMPING toward `code`, with the ramp timer in full (R147). The PRESSURE
report of the change carries the new code (R155). -/
def startRamp (code : Nat) (p : Pump) (s : State) : State :=
  ladder (pumpPut { p with state := .ramping, rampFrom := p.code, code := code, startTimer := none,
                           rampTimer := some s.cfg.rampTimeout, band := none } s)

/-- A ramp with an empty latch: a reading already within tolerance ends it at once (R147). -/
def rampUnlatched (code : Nat) (p : Pump) (s : State) : State :=
  let s1 := startRamp code p s
  if readingFits s1 code then enterSteady s1 else s1

/-- The end of a ramp, by its three cases (R147). -/
def rampEnds (s : State) : State :=
  match s.pump.latch with
  | none => enterSteady s
  | some r =>
    let code := requestCode s.cfg r
    let p := { s.pump with latch := none, target := r }
    if code = s.pump.code then enterSteady (s.setPump p) else rampUnlatched code p s

/-- Entry to RAMPING with whatever is latched; a reading already within tolerance ends it at once (R147). -/
def enterRamping (code : Nat) (p : Pump) (s : State) : State :=
  let s1 := startRamp code p s
  if readingFits s1 code then rampEnds s1 else s1

/-- A ramp in progress, the pump's values changed to `p`, is turned toward another code: the ramp timer starts again in
full, and the code held when the ramp began stands (R153, R154; log entry 20). -/
def redirectRamp (code : Nat) (p : Pump) (s : State) : State :=
  let s1 := pumpPut { p with code := code, rampTimer := some s.cfg.rampTimeout } s
  if readingFits s1 code then rampEnds s1 else s1

/-- STARTING ends: the latched request, if any, is taken, and the pump ramps toward the target's code (R146). -/
def startEnds (s : State) : State :=
  let p := { s.pump with latch := none, target := s.pump.latch.getD s.pump.target }
  rampUnlatched (requestCode s.cfg p.target) p s

/-- The pump enters STARTING; an input already active ends it at once (R145, R146). -/
def enterStarting (target : LevelReq) (s : State) : State :=
  let s1 := ladder (pumpPut { s.pump with state := .starting, target := target, code := 0,
                                          startTimer := some s.cfg.startTimeout, rampTimer := none, band := none } s)
  if s1.lines.pumpRunning then startEnds s1 else s1

/-- A request other than OFF, by the pump state (Table 8-5). -/
def requestLevel (r : LevelReq) (s : State) : State :=
  match s.pump.state with
  | .off => enterStarting r s
  | .starting => s.setPump { s.pump with latch := some r }
  | .ramping => s.setPump { s.pump with latch := some r }
  | .steady =>
    let code := requestCode s.cfg r
    if code = s.pump.code then
      pumpPut { s.pump with target := r, current := r.level } s
    else enterRamping code { s.pump with target := r } s

/-- A level request of any source (R145). In UNCONFIGURED and TRIP a request other
than OFF is not taken. Every request taken stops a running ladder timer, which starts again in full if its conditions
hold afterwards. -/
def levelRequest (r : LevelReq) (s : State) : State :=
  if r.level = .off then
    if s.pump.state = .off then s else pumpStop s
  else if s.job.state = .unconfigured ∨ s.job.state = .trip then s
  else ladder (requestLevel r (s.setPump { s.pump with standbyTimer := none, offTimer := none }))

/-! ## The watches in STEADY (R148, R149) -/

/-- The band timer in full, as a drift. -/
def drift (c : ConfigRec) : Option Band := some { ms := c.dipTime, dip := false, lowest := 0 }

/-- The band timer in full, as a dip whose lowest reading is `r` (R149). -/
def dipFrom (c : ConfigRec) (r : Nat) : Option Band := some { ms := c.dipTime, dip := true, lowest := r }

/-- The band timer after a reading in STEADY, the valve read as open: a reading below the band starts or deepens a dip,
one at or above it ends the dip; above the band it is a drift (R148, R149). -/
def bandValveOpen (c : ConfigRec) (code reading : Nat) (b : Option Band) : Option Band :=
  if reading + c.tolerance < demand code then
    match b with
    | some b => if b.dip then some { b with lowest := min b.lowest reading } else dipFrom c reading
    | none => dipFrom c reading
  else if demand code + c.tolerance < reading then
    match b with
    | some b => if b.dip then drift c else some b
    | none => drift c
  else none

/-- The band timer after a reading in STEADY, the valve read as closed (R148). -/
def bandValveClosed (c : ConfigRec) (code reading : Nat) (b : Option Band) : Option Band :=
  if withinTolerance c.tolerance code reading then none
  else match b with
    | some b => some b
    | none => drift c

/-- A reading acts on a pump in STEADY. -/
def steadyReading (s : State) : State :=
  s.setPump { s.pump with
    band := if s.pump.valveOpen then bandValveOpen s.cfg s.pump.code s.lines.reading s.pump.band
            else bandValveClosed s.cfg s.pump.code s.lines.reading s.pump.band }

/-- The Pump Manager is told "valve open": a band timer that runs on a reading below the band becomes a dip from that
moment (R149). -/
def pumpValveOpen (s : State) : State :=
  let band :=
    match s.pump.band with
    | some b =>
      if !b.dip && decide (s.lines.reading + s.readingTolerance < demand s.pump.code) then
        dipFrom s.cfg s.lines.reading
      else some b
    | none => none
  ladder (s.setPump { s.pump with valveOpen := true, band := band })

/-- The Pump Manager is told "valve closed": a dip ends (R149). DESIGN CHOICE (log entry 42): the band timer stops then,
and a drift starts at the next reading outside the band. -/
def pumpValveClosed (s : State) : State :=
  let band :=
    match s.pump.band with
    | some b => if b.dip then none else some b
    | none => none
  ladder (s.setPump { s.pump with valveOpen := false, band := band })

/-- The Pump Manager is told "sequence in progress" or "sequence ended" (R121). -/
def pumpSequence (b : Bool) (s : State) : State := ladder (s.setPump { s.pump with inSequence := b })

/-! ## Orders from the Job Controller (R153) -/

/-- FAULT entry of a kind other than PUMP_START and PUMP_RAMP, and warm reset: the target becomes STANDBY. In STEADY at
the standby code the current level does too. DEDUCED (log entry 46): at a warm reset as well, where Table 8-2 keeps it.
-/
def orderStandby (s : State) : State :=
  let target : LevelReq := ⟨.standby, 0⟩
  let code := requestCode s.cfg target
  let p := { s.pump with latch := none, target := target }
  match s.pump.state with
  | .off => s.setPump { s.pump with latch := none }
  | .starting => pumpPut p s
  | .ramping => redirectRamp code p s
  | .steady =>
    if code = s.pump.code then ladder (pumpPut { p with current := .standby } s)
    else enterRamping code p s

/-- TRIP entry: the pump stops at once. -/
def orderTrip (s : State) : State := pumpStop s

/-- The tolerance of the record replaced, `old`, judges the last reading until the next one (R154). -/
def keepTolerance (old : ConfigRec) (s : State) : State :=
  s.setPump { s.pump with formerTolerance := some (s.pump.formerTolerance.getD old.tolerance) }

/-- The target's code is computed again under a new record (R154). DESIGN CHOICE (log entry 45): in RAMPING the ramp
timer starts again in full even where the code stands. -/
def recodeTarget (s : State) : State :=
  let code := requestCode s.cfg s.pump.target
  match s.pump.state with
  | .off => s
  | .starting => s
  | .ramping =>
    if code = s.pump.code then s.setPump { s.pump with rampTimer := some s.cfg.rampTimeout }
    else redirectRamp code s.pump s
  | .steady => if code = s.pump.code then s else enterRamping code s.pump s

/-- A Configure that replaces the record `old` (R154): the target in RAMPING starts its ramp timer again (log entry 45),
and the ladder timers start again at the new delays. -/
def pumpConfigured (old : ConfigRec) (s : State) : State :=
  let s1 := recodeTarget (keepTolerance old s)
  ladder (s1.setPump { s1.pump with standbyTimer := none, offTimer := none })

end Sys2Proof.Machine
end

