-- ==== Sys2Proof/Machine/Jet.lean ====
section
/-! DEFINITION. Machine/Jet.lean: what the Jet Sequencer and the head height share with every other block (Chapters 6
and 7): the Z command and its confirmation (R107), the outputs (R121), the contour distance (R130), the close command
(R131) and the abrasive monitor (R135). Sequences, which the planner follows, are in Machine/Sequence.lean. -/

namespace Sys2Proof.Machine

open Sys2Proof

/-! ## Head height (R107) -/

/-- The number of a height in a detail word (Table 1-5) and in the Status record (Table 11-7). -/
def zNumber : ZPos → Nat
  | .clear => 1
  | .pierce => 2
  | .cut => 3

/-- The Z timer does not run in UNCONFIGURED or in TRIP (R107). -/
def zTimerRuns (s : State) : Bool := s.job.state != .unconfigured && s.job.state != .trip

/-- The Z timer in full, where it runs. -/
def zTimerFull (s : State) : Option Nat := if zTimerRuns s then some s.cfg.zTimeout else none

/-- A Z command: naming the position already commanded it changes nothing; otherwise it is CONFIRMED at once when the
Z-reached input already names it, and PENDING with the timer in full when it does not (R107). -/
def zCommand (p : ZPos) (s : State) : State :=
  if s.axis.zCmd = p then s
  else if s.lines.zReached = some p then s.setAxis { s.axis with zCmd := p, zConfirmed := true, zTimer := none }
  else s.setAxis { s.axis with zCmd := p, zConfirmed := false, zTimer := zTimerFull s }

/-- The Z-reached input now names `z`: confirmation is reached, left, or stands (R107). -/
def zReach (z : Option ZPos) (s : State) : State :=
  let s1 := s.setLines { s.lines with zReached := z }
  if z = some s1.axis.zCmd then
    if s1.axis.zConfirmed then s1 else s1.setAxis { s1.axis with zConfirmed := true, zTimer := none }
  else if s1.axis.zConfirmed then s1.setAxis { s1.axis with zConfirmed := false, zTimer := zTimerFull s1 }
  else s1

/-- Commanded height `p` is confirmed. -/
def State.zAt (s : State) (p : ZPos) : Bool := s.axis.zCmd == p && s.axis.zConfirmed

/-- On entering a configured state the Z timer starts if the confirmation is then PENDING (R107). -/
def zTimerOnConfigured (s : State) : State :=
  if s.axis.zConfirmed then s else s.setAxis { s.axis with zTimer := zTimerFull s }

/-! ## Outputs (R121) -/

/-- The valve output is OPEN in DWELL, RAMPING and OPEN (Table 7-2). -/
def JetState.valveOpen : JetState → Bool
  | .dwell => true
  | .ramping => true
  | .opened => true
  | .closed => false
  | .preparing => false
  | .feeding => false
  | .closing => false

/-- The feeder enable output (R121): in FEEDING, DWELL, RAMPING and OPEN when the rate in force is above 0. -/
def feederEnabled (j : Jet) : Bool := (j.state == .feeding || j.state.valveOpen) && decide (0 < j.rate)

/-- A sequence is in progress from PREPARING until the jet reaches OPEN or it is abandoned. A sequence that waits for
the valve to close (R122) has its record but is not yet in progress for the Pump Manager. -/
def State.sequenceRecorded (s : State) : Bool := s.jet.seq.isSome

/-- The Wear Counter is told "valve open" or "valve closed" (R121, R166). -/
def wearTold (b : Bool) (s : State) : State := s.setWear { s.wear with timing := b }

/-! ## Contour distance (R130) -/

/-- The contour distance at the end of a Recovery Path. -/
def recEnd : List Partial → Nat
  | [] => 0
  | [p] => p.cEnd
  | _ :: ps => recEnd ps

/-- The head's distance along the path it follows, truncated to whole µm (R105). -/
def State.headPos (s : State) : Nat := s.axis.pathPos / 60

/-- The head's present speed along the plan path (R82): 0 while it still comes to rest on a path of its own, after
which it stands at the start of the plan path (log entry 32). -/
def State.pathSpeed (s : State) : Nat :=
  if s.axis.stopRun.isSome || s.axis.homing.isSome then 0 else s.axis.speed

/-- The present contour distance, defined while a contour record is present (R130). -/
def contourDistance (s : State) : Option Nat :=
  match s.jet.contour with
  | none => none
  | some c =>
    match s.queue.recPath with
    | [] => some (c.start + s.queue.progress)
    | p :: ps => some (if s.queue.recBack then recEnd (p :: ps) - s.headPos else p.cStart + s.headPos)

/-! ## The abrasive monitor (R135) -/

/-- The monitor is disarmed; its last-pulse position stands. -/
def disarm (j : Jet) : Jet := { j with armed := false, window := none }

/-- The monitor is armed, or a pulse is taken: the last-pulse position takes the present contour distance and the
window timer starts in full. -/
def armMonitor (s : State) : State :=
  s.setJet { s.jet with armed := true, window := some s.cfg.abrasiveWindow,
                        lastPulse := some ((contourDistance s).getD 0) }

/-! ## Closing the valve (R131) -/

/-- The valve timer in full with the controller state in force; it does not run while no Configure record is in force
(R120). -/
def valveTimerFull (s : State) : Option (Nat × CtrlState) :=
  if s.configured then some (s.cfg.valveTimeout, s.job.state) else none

/-- The sequence record is discarded and the Pump Manager is told "sequence ended", when there is one. -/
def endSequence (s : State) : State :=
  if s.jet.seq.isSome then pumpSequence false (s.setJet { s.jet with seq := none }) else s

/-- A close command (R131): the valve output closes, the feeder is disabled, the monitor is disarmed, a sequence in
progress ends, and the jet goes to CLOSING or CLOSED by where the valve stood. One that finds the jet CLOSING or CLOSED
leaves the jet state and a running valve timer as they are. -/
def closeCommand (s : State) : State :=
  let s1 := endSequence (s.setJet { disarm s.jet with rate := 0, cutEntry := none })
  match s.jet.state with
  | .closed => s1
  | .closing => s1
  | st =>
    if st.valveOpen || !s1.lines.valveClosed then
      s1.setJet { s1.jet with state := .closing, valveTimer := valveTimerFull s1 }
    else s1.setJet { s1.jet with state := .closed }

/-- The jet is CLOSED. -/
def State.jetClosed (s : State) : Bool := s.jet.state == .closed

/-- The contour record, the pierce-incomplete flag, the monitor and the recovery record are cleared (R130, R134). -/
def clearJetRecords (s : State) : State :=
  s.setJet { disarm s.jet with contour := none, incomplete := false, recovery := none, lastPulse := none }

end Sys2Proof.Machine
end

