-- ==== Sys2Proof/Machine/ZoneTest.lean ====
section
/-! DEFINITION. Machine/ZoneTest.lean: the zones of the bed (R157), the touch test (R158), the closed zones (R157) and
the zones in use (R159). -/

namespace Sys2Proof.Machine

open Sys2Proof

/-- An x-extent touches a zone (R158). With a zone count of 1 every extent touches A and none touches B. -/
def touches (c : ConfigRec) (ext : Int × Int) : Zone → Bool
  | .a => c.zoneCount != 2 || decide (ext.1 < c.split)
  | .b => c.zoneCount == 2 && decide (c.split ≤ ext.2)

/-- The zone in which a point lies (R157). -/
def pointTouches (c : ConfigRec) (p : Point) (z : Zone) : Bool := touches c (p.x, p.x) z

/-- The x-extent of a leg of the plan path: a partial entry's own for the Recovery Path, none for an END (R158). -/
def Leg.extent (l : Leg) : Option (Int × Int) :=
  match l.shape with
  | none => none
  | some s =>
    match l.kind with
    | .approach => some (xExtent s)
    | .entry => some (xExtent s)
    | .backtrack => some (xExtentPartial s)
    | .recut => some (xExtentPartial s)

/-- A leg touches a zone; an END touches none (R158). -/
def Leg.touches (c : ConfigRec) (l : Leg) (z : Zone) : Bool :=
  match l.extent with
  | some e => Machine.touches c e z
  | none => false

/-- A queue entry touches a zone (R158). -/
def QueueEntry.touches (c : ConfigRec) (e : QueueEntry) (z : Zone) : Bool :=
  match e.shape with
  | some s => Machine.touches c (xExtent s) z
  | none => false

/-- A guard input reports OPEN. -/
def Lines.guardOpen (l : Lines) : Zone → Bool
  | .a => l.guardA
  | .b => l.guardB

/-- The zone is closed to the head. -/
def ZoneUnit.closed (u : ZoneUnit) : Zone → Bool
  | .a => u.closedA
  | .b => u.closedB

/-- The closed zones: among those the zone count provides, the ones whose guard is OPEN; none in UNCONFIGURED (R157). -/
def closedZones (s : State) : Zone → Bool
  | .a => s.configured && s.lines.guardA
  | .b => s.configured && s.cfg.zoneCount == 2 && s.lines.guardB

/-- The zone count provides the zone: with a count of 1 the guard B input is followed but ignored (R157). -/
def zoneProvided (s : State) (z : Zone) : Bool := z == .a || s.cfg.zoneCount == 2

/-- The closed zones are derived afresh (R157). -/
def deriveClosed (s : State) : State :=
  s.setZone { s.zone with closedA := closedZones s .a, closedB := closedZones s .b }

/-! ## Zones in use (R159) -/

/-- Every stop of the plan. -/
def Plan.allStops (p : Plan) : List Stop := p.stops ++ p.holdStop.toList

/-- The head has begun the leg it is on (R159): it has taken a step along it, or, at its very start, it crosses onto it
at speed, with no stop and no junction of limit 0 there. -/
def State.steppedOn (s : State) : Bool :=
  decide (0 < s.axis.pathPos)
  || (decide (0 < s.pathSpeed) && !(s.plan.allStops.any (fun t => t.pos == 0))
      && !(s.plan.anchors.any (fun a => a.pos == 0 && a.speed == 0)))

/-- A sequence for the queue entry is in progress, or the jet stands open after one (R159). -/
def State.opensAt (s : State) (e : QueueEntry) : Bool :=
  s.jet.seq.map SeqRecord.entry == some e.ref || s.jet.cutEntry == some e.ref

/-- The head has begun the executing entry (R159): it has taken a step along it, or a sequence has begun at its start.
On a Recovery Path its progress stands and tells. -/
def State.begun (s : State) : Bool :=
  match s.queue.recPath with
  | _ :: _ => decide (0 < s.queue.progress)
  | [] => s.steppedOn || (s.queueHead.map s.opensAt).getD false

/-- A pierce or kerf restart in progress touches the zone in which its point lies (R158). DESIGN CHOICE (log entry 43):
the point is the head's present set-point, so that it moves with a MOVING pierce that creeps over the split. -/
def sequenceTouches (s : State) (z : Zone) : Bool :=
  s.jet.seq.isSome && pointTouches s.cfg s.axis.setPoint z

/-- The zone is in use (R159). -/
def zoneInUse (s : State) (z : Zone) : Bool :=
  (s.job.state == .run || s.job.state == .hold)
  && ((match s.plan.approach with
       | some a => s.steppedOn && touches s.cfg (xExtent a) z
       | none =>
         match s.queueHead with
         | some e => s.begun && e.touches s.cfg z
         | none => false)
      || s.queue.recPath.any (fun p => touches s.cfg (xExtentPartial p.shape) z)
      || sequenceTouches s z)

/-! ## Lamps (R163) -/

/-- The head is waiting for the zone: in RUN/ZONE_WAIT at a ZONE stop recorded with it, or in HOLD with it as the hold
record's guard zone. -/
def waitsFor (s : State) (z : Zone) : Bool :=
  (s.inRun .zoneWait && s.plan.stops.any (fun t => t.kind == .zone && t.zone == some z && t.pos == (s.headPos : Int)))
  || (s.job.state == .hold && (s.job.hold.bind HoldRecord.zone) == some z)

/-- The lamp of a zone, by the first case of R163 that holds. -/
def lampOf (s : State) (z : Zone) : Lamp :=
  if s.job.state = .unconfigured ∨ s.job.state = .trip then .off
  else if z = .b ∧ s.cfg.zoneCount ≠ 2 then .off
  else if s.lines.guardOpen z && waitsFor s z then .attention
  else if s.lines.guardOpen z then .loading
  else if zoneInUse s z then .active
  else .ready

/-- The lamps are derived again; a derivation that changes either posts a ZONE report (R163, R164). -/
def lampDerive (s : State) : State :=
  let a := lampOf s .a
  let b := lampOf s .b
  if s.zone.lampA = a ∧ s.zone.lampB = b then s
  else post (.zone s.lines.guardA a s.lines.guardB b) (s.setZone { s.zone with lampA := a, lampB := b })

end Sys2Proof.Machine
end

