-- ==== Sys2Proof/Machine/Queue.lean ====
section
/-! DEFINITION. Machine/Queue.lean: the Segment Queue's operations (Chapter 2): where a segment starts, the checks of a
Segment record, acceptance, retirement, the contour floor and the Recovery Path. -/

namespace Sys2Proof.Machine

open Sys2Proof

/-! ## Points on a path of legs -/

/-- The point at distance `d` along a leg; the backtrack runs its shape from end to start (R105). DESIGN CHOICE (log
entry 39): on the backtrack it is the distance run that is truncated to whole µm, not the progress that falls. -/
def Leg.pointAt (l : Leg) (d : Nat) : Option Point :=
  l.shape.map (fun s =>
    if l.kind = .backtrack then Machine.pointAt s (l.len - d)
    else if l.base + d = s.length then s.stop
    else Machine.pointAt s (l.base + d))

/-- The point at distance `d` along a path; past its end, the end (R105, R106). -/
def pointOnPath (here : Point) : List Leg → Nat → Point
  | [], _ => here
  | [l], d => (l.pointAt (min d l.len)).getD here
  | l :: ls, d =>
    if d < l.len then (l.pointAt d).getD here else pointOnPath ((l.pointAt l.len).getD here) ls (d - l.len)

/-- The end of the last leg whose end is reached moving forward when the head goes from `p` to `q`, in sixtieths of a µm
(R105). -/
def endReached : Nat → Nat → List Leg → Option Point
  | _, _, [] => none
  | p, q, l :: ls =>
    if q < 60 * l.len then none
    else (endReached (p - 60 * l.len) (q - 60 * l.len) ls).or
      (if p < 60 * l.len ∧ l.kind ≠ .backtrack then l.pointAt l.len else none)

/-- The set-point of a period that takes a head at `here` from `p` to `q` sixtieths along a path held (R105, R106). -/
def runPoint (here : Point) (legs : List Leg) (p q : Nat) : Point :=
  (endReached p q legs).getD (if q = 0 then here else pointOnPath here legs (q / 60))

/-- Where an axis of a reference run will come to rest. -/
def LineRun.rest (r : LineRun) : Int := r.start + r.dir * ((r.len.getD (r.pos60 / 60) : Nat) : Int)

/-- The rest position of the head (R31). -/
def restPosition (s : State) : Point :=
  if s.job.state = .homing then ⟨s.cfg.homeX, s.cfg.homeY⟩
  else match s.axis.stopRun with
    | some r => runPoint s.axis.setPoint r.legs (60 * r.at_ - 1) (60 * r.at_)
    | none =>
      match s.axis.homing with
      | some h => ⟨(h.x.run.map LineRun.rest).getD s.axis.setPoint.x, (h.y.run.map LineRun.rest).getD s.axis.setPoint.y⟩
      | none => s.axis.setPoint

/-- The start point of a segment accepted now (R31). -/
def startPoint (s : State) : Point := s.queue.tailPos.getD (restPosition s)

/-! ## The checks of a Segment record (R32 to R38) -/

/-- The shape a Segment record has from `start`, by its kind (R35). -/
def segmentShape (start : Point) (k : SegKind) (r : SegmentReq) : Option Shape :=
  match k with
  | .traverse => some (straightShape start r.stop)
  | .line => some (straightShape start r.stop)
  | .arcCw => some (arcShape false start r.centre r.stop)
  | .arcCcw => some (arcShape true start r.centre r.stop)
  | .segEnd => none

/-- The difference of two distances. -/
def gap (m n : Nat) : Nat := (m - n) + (n - m)

/-- The geometry checks of R38 in order, by field number. -/
def geometryChecks (c : ConfigRec) (k : SegKind) (shape : Option Shape) : List (Nat × Bool) :=
  match shape with
  | none => []
  | some s =>
    [(3, withinI c.xMin c.xMax s.stop.x), (4, withinI c.yMin c.yMax s.stop.y)]
    ++ (if k = .line then [(3, s.length != 0)] else [])
    ++ (match s.arc with
        | none => []
        | some a =>
          let ex := xExtent s
          let ey := yExtent s
          [(5, decide (c.rMin ≤ a.radius)),
           (3, decide (gap (distance a.centre s.stop) a.radius ≤ 5)),
           (5, decide (c.xMin ≤ ex.1) && decide (ex.2 ≤ c.xMax)),
           (6, decide (c.yMin ≤ ey.1) && decide (ey.2 ≤ c.yMax))])

/-- The field-value checks of R37 in order, then those of R38. -/
def segmentFieldChecks (s : State) (r : SegmentReq) : List (Nat × Bool) :=
  match segKindOf r.kind with
  | none => [(2, false)]
  | some k =>
    (if k.cutting then [(8, within 1 5 r.quality), (9, (r.method.map methodOf).isNone || (r.method.bind methodOf).isSome)]
     else [])
    ++ geometryChecks s.cfg k (segmentShape (startPoint s) k r)

/-- The sequence check (R33): the refusal, if it fails. -/
def sequenceCheck (s : State) (seq : SeqNo) : Option (ResultCode × Nat) :=
  if seq = s.queue.expected then none else some (.sequence, s.queue.expected.toNat)

/-- The free-slot check (R34) for `n` entries. -/
def freeCheck (s : State) (n : Nat) : Option (ResultCode × Nat) := if n ≤ s.free then none else some (.queueFull, n)

/-- The material check on a slot (R36). -/
def slotCheck (s : State) (slot : Nat) : Option (ResultCode × Nat) :=
  if (s.material slot).isSome then none else some (.noSlot, slot)

/-- The checks of a Segment record after the controller's own, in the order of R32: the refusal's code and detail. -/
def segmentRefusal (s : State) (r : SegmentReq) : Option (ResultCode × Nat) :=
  (sequenceCheck s r.seq).or
    ((freeCheck s 1).or
      ((if ((segKindOf r.kind).map SegKind.cutting).getD false then slotCheck s r.slot else none).or
        ((firstFault (segmentFieldChecks s r)).map (fun n => (ResultCode.range, n)))))

/-! ## Acceptance (R30, R39) -/

/-- The resolved pierce method of an entry that opens a contour: the method sent, or the material's default (R30). -/
def resolvedMethod (m : Option MaterialRec) (sent : Option PierceMethod) : Option PierceMethod :=
  sent.or (m.map MaterialRec.method)

/-- The queue entry of an accepted Segment record (Table 2-3), with the pierce method field of a cutting segment as sent
(R29). -/
def segmentEntry (s : State) (k : SegKind) (r : SegmentReq) : QueueEntry :=
  let opens := k.cutting && !s.queue.tailCut
  { seq := r.seq, pidx := none, kind := k, shape := segmentShape (startPoint s) k r
    slot := if k.cutting then some r.slot else none
    quality := if k.cutting then some r.quality else none
    opens := opens
    method := if opens then resolvedMethod (s.material r.slot) ((r.method.bind methodOf).join) else none
    sent := if k.cutting then r.method.bind methodOf else none
    report := r.report, tag := r.tag }

/-- A use count after a change at a slot. -/
def bumpUse (uses : Vector Nat 8) (slot : Option Nat) (f : Nat → Nat) : Vector Nat 8 :=
  match slot with
  | none => uses
  | some k => uses.mapFinIdx (fun i n _ => if i = k then f n else n)

/-- An entry joins the tail of the queue: its use count rises and the path tail follows it (R39, R40). -/
def appendEntry (q : SegQueue) (e : QueueEntry) : SegQueue :=
  { q with
    entries := q.entries ++ [e]
    uses := bumpUse q.uses e.slot (· + 1)
    tailPos := (e.shape.map Shape.stop).or q.tailPos
    tailCut := e.kind.cutting }

/-- Entries join the queue and the expected sequence number advances once (R33, R39). -/
def acceptEntries (es : List QueueEntry) (s : State) : State :=
  let q := es.foldl appendEntry s.queue
  s.setQueue { q with expected := q.expected + 1 }

/-! ## Retirement (R42 to R44) -/

/-- The Retired History with one more entry: a ring of at most 32 (R44). -/
def pushHistory (h : List HistEntry) (e : HistEntry) : List HistEntry :=
  (if 32 ≤ h.length then h.drop (h.length + 1 - 32) else h) ++ [e]

/-- The history copy of an entry (Table 2-4). `limit` is the segment speed limit the planner applied and `start` the
contour start of the contour record. -/
def historyEntry (s : State) (e : QueueEntry) (start : Nat) (limit : Option Nat) : HistEntry :=
  let here : Shape := { start := s.axis.setPoint, stop := s.axis.setPoint, arc := none, length := 0 }
  let shape := e.shape.getD here
  let m := s.entryMaterial e
  { seq := e.seq, pidx := e.pidx, kind := e.kind, shape := shape
    contour := if e.kind.cutting then some (start, start + shape.length) else none
    limit := limit
    pressures := if e.kind.cutting then m.map (fun m => (m.pPierce, m.pCut)) else none
    rate := if e.kind.cutting then m.map MaterialRec.rate else none
    opens := e.opens }

/-- The queue head leaves the queue into the history, its use count falls, and a RETIRED report is posted when its
report flag is set (R42, R43). -/
def retireEntry (e : QueueEntry) (start : Nat) (limit : Option Nat) (s : State) : State :=
  let s1 := s.setQueue { s.queue with
    entries := s.queue.entries.tail
    uses := bumpUse s.queue.uses e.slot (· - 1)
    progress := 0
    history := pushHistory s.queue.history (historyEntry s e start limit) }
  if e.report then post (.retired e.seq e.pidx e.tag) s1 else s1

/-- The head has reached the end of the queue head moving forward (R42). The contour end of a cutting entry becomes the
contour start the record holds (R130). -/
def retireHead (limit : Nat) (s : State) : State :=
  match s.queueHead with
  | none => s
  | some e =>
    let start := (s.jet.contour.map ContourRec.start).getD 0
    let s1 := retireEntry e start (if e.kind = .segEnd then none else some limit) s
    if e.kind.cutting then
      s1.setJet { s1.jet with
        contour := s1.jet.contour.map (fun c => { c with start := start + (e.shape.map Shape.length).getD 0 }) }
    else s1

/-! ## The current contour and the Recovery Path (R46, R47) -/

/-- The cutting entries at the end of the history. -/
def lastRun (h : List HistEntry) : List HistEntry := (h.reverse.takeWhile (fun e => e.kind.cutting)).reverse

/-- The history entries of the current contour, for an executing entry `e`. -/
def contourRun (s : State) (e : QueueEntry) : List HistEntry := if e.opens then [] else lastRun s.queue.history

/-- The contour floor for a cutting executing entry `e` (R46). -/
def contourFloor (s : State) (e : QueueEntry) : Nat :=
  match contourRun s e with
  | h :: _ => (h.contour.map Prod.fst).getD 0
  | [] => (s.jet.contour.map ContourRec.start).getD 0

/-- The part of a shape between two distances along it (R47). -/
def trimShape (s : Shape) (lo hi : Nat) : Shape :=
  { start := pointAt s lo, stop := pointAt s hi
    arc := s.arc.map (fun a => { a with sweep := if a.radius = 0 then 0 else (hi - lo) * unit / a.radius })
    length := hi - lo }

/-- The partial entry of a source with contour start `s0` for the stretch `sR` to `sStop`, if the overlap has a length
above 0. -/
def partialOf (seq : SeqNo) (pidx : Option Nat) (shape : Shape) (s0 limit pPierce pCut rate sR sStop : Nat) :
    List Partial :=
  let lo := max sR s0
  let hi := min sStop (s0 + shape.length)
  if lo < hi then
    [{ seq := seq, pidx := pidx, shape := trimShape shape (lo - s0) (hi - s0), cStart := lo, cEnd := hi, limit := limit,
       pPierce := pPierce, pCut := pCut, rate := rate }]
  else []

/-- The partial entry of a history entry. -/
def partialOfHistory (sR sStop : Nat) (h : HistEntry) : List Partial :=
  match h.contour with
  | none => []
  | some (s0, _) =>
    partialOf h.seq h.pidx h.shape s0 (h.limit.getD 0) ((h.pressures.map Prod.fst).getD 0)
      ((h.pressures.map Prod.snd).getD 0) (h.rate.getD 0) sR sStop

/-- The Recovery Path from `sR` to `sStop`; `limit` is the executing entry's segment speed limit (R47). -/
def recoveryPath (s : State) (e : QueueEntry) (limit sR sStop : Nat) : List Partial :=
  let own :=
    match e.shape with
    | none => []
    | some shape =>
      let m := s.entryMaterial e
      partialOf e.seq e.pidx shape ((s.jet.contour.map ContourRec.start).getD 0) limit
        ((m.map MaterialRec.pPierce).getD 0) ((m.map MaterialRec.pCut).getD 0) ((m.map MaterialRec.rate).getD 0) sR sStop
  ((contourRun s e).map (partialOfHistory sR sStop)).flatten ++ own

end Sys2Proof.Machine
end

