-- ==== Sys2Proof/Machine/Expander.lean ====
section
/-! DEFINITION. Machine/Expander.lean: the Template Expander (Chapter 4): compensation for the kerf, the pieces of the
contour, mirroring and rotation, the queue entries, and the checks of a Place. -/

namespace Sys2Proof.Machine

open Sys2Proof

/-! ## Compensation (R68 to R70, R73) -/

/-- The compensated dimensions of an expansion: the half-width, the half-depth, R′, the applied lead-in and bridge, and
the adjustments made. -/
structure Compensation where
  a : Int
  b : Int
  radius : Int
  leadIn : Int
  bridge : Int
  enlarged : Bool
  leadInClamped : Bool
  bridgeClamped : Bool
  widthFails : Bool
  depthFails : Bool
deriving DecidableEq, Repr

/-- R′ before the enlargement (R68, steps 3 and 4). -/
def roundEndRadius (t : TemplateRec) (k : Nat) (a b : Int) : Int :=
  let r : Int := (t.radius : Int) - ((k / 2 : Nat) : Int)
  if t.radius = min t.width t.depth / 2 then min r (min a b) else r

/-- The compensation of a template at kerf `k` (R68, R69, R70, R73). -/
def compensate (t : TemplateRec) (k rMin : Nat) : Compensation :=
  let w : Int := (t.width : Int) - k
  let d : Int := (t.depth : Int) - k
  let a := w / 2
  let b := d / 2
  let r := roundEndRadius t k a b
  let enlarged := decide (r < (rMin : Int))
  let radius := if enlarged then (rMin : Int) else r
  let leadInClamped := decide (b < (t.leadIn : Int))
  let bridge : Int := if a = radius then 0 else min (t.bridge : Int) (a - radius)
  { a := a, b := b, radius := radius, leadIn := if leadInClamped then b else (t.leadIn : Int), bridge := bridge
    enlarged := enlarged, leadInClamped := leadInClamped, bridgeClamped := decide (bridge < (t.bridge : Int))
    widthFails := decide (w < 2 * radius), depthFails := decide (d < 2 * radius) }

/-! ## The pieces (R71, R72, R74, R75) -/

/-- A piece of the contour: its kind, its end and its arc centre as offsets from the centre. -/
structure Piece where
  kind : SegKind
  stop : Point
  centre : Point
deriving DecidableEq, Repr

/-- The pieces of a CCW expansion before rotation, each with whether it is kept (Table 4-3, R74). -/
def ccwPieces (c : Compensation) : List (Bool × Piece) :=
  let a := c.a
  let b := c.b
  let r := c.radius
  let line (x y : Int) : Piece := { kind := .line, stop := ⟨x, y⟩, centre := ⟨0, 0⟩ }
  let arc (x y cx cy : Int) : Piece := { kind := .arcCcw, stop := ⟨x, y⟩, centre := ⟨cx, cy⟩ }
  [(true, { kind := .traverse, stop := ⟨0, b - c.leadIn⟩, centre := ⟨0, 0⟩ }),
   (decide (c.leadIn ≠ 0), line 0 b),
   (decide (a ≠ r), line (-(a - r)) b),
   (true, arc (-a) (b - r) (-(a - r)) (b - r)),
   (decide (b ≠ r), line (-a) (-(b - r))),
   (true, arc (-(a - r)) (-b) (-(a - r)) (-(b - r))),
   (decide (a ≠ r), line (a - r) (-b)),
   (true, arc a (-(b - r)) (a - r) (-(b - r))),
   (decide (b ≠ r), line a (b - r)),
   (true, arc (a - r) b (a - r) (b - r)),
   (decide (a - r - c.bridge ≠ 0), line c.bridge b)]

/-- A piece mirrored about the line through the centre parallel to Y (R72). -/
def mirrorPiece (p : Piece) : Piece :=
  { kind := if p.kind = .arcCcw then .arcCw else p.kind, stop := ⟨-p.stop.x, p.stop.y⟩,
    centre := ⟨-p.centre.x, p.centre.y⟩ }

/-- An offset turned by quarter turns, each mapping (dx, dy) to (−dy, dx) (R75). -/
def quarterTurns : Nat → Point → Point
  | 0, p => p
  | n + 1, p => quarterTurns n ⟨-p.y, p.x⟩

/-- The pieces an expansion keeps, as points on the bed (R71 to R75). -/
def placedPieces (t : TemplateRec) (c : Compensation) (centre : Point) (turns : Nat) : List Piece :=
  let kept := ((ccwPieces c).filter Prod.fst).map Prod.snd
  let facing := if t.direction = .cw then kept.map mirrorPiece else kept
  let place (p : Point) : Point := let q := quarterTurns turns p; ⟨centre.x + q.x, centre.y + q.y⟩
  facing.map (fun p => { p with stop := place p.stop, centre := place p.centre })

/-! ## The entries (R76) -/

/-- The shape of a piece from its start point. -/
def pieceShape (start : Point) (p : Piece) : Shape :=
  match p.kind with
  | .arcCw => arcShape false start p.centre p.stop
  | .arcCcw => arcShape true start p.centre p.stop
  | .traverse | .line | .segEnd => straightShape start p.stop

/-- The entries of an expansion, numbered from `i` on, each starting where the one before it ends (R76). -/
def pieceEntries (r : PlaceReq) (t : TemplateRec) (slot : Nat) (method : Option PierceMethod) :
    Nat → Point → List Piece → List QueueEntry
  | _, _, [] => []
  | i, start, p :: ps =>
    { seq := r.seq, pidx := some i, kind := p.kind, shape := some (pieceShape start p), slot := some slot
      quality := if p.kind.cutting then some t.quality else none
      opens := i == 1
      method := if i = 1 then method else none
      sent := none
      report := ps.isEmpty && r.report
      tag := if ps.isEmpty then r.tag else none } :: pieceEntries r t slot method (i + 1) p.stop ps

/-- The material slot a Place resolves to (R66). -/
def placeSlot (r : PlaceReq) (t : TemplateRec) : Nat := r.slotOverride.getD t.material

/-- The whole expansion of a Place at kerf `k`: its compensation and its entries. -/
def expand (s : State) (r : PlaceReq) (t : TemplateRec) (k : Nat) : Compensation × List QueueEntry :=
  let c := compensate t k s.cfg.rMin
  let slot := placeSlot r t
  (c, pieceEntries r t slot (resolvedMethod (s.material slot) t.method) 0 (startPoint s)
        (placedPieces t c r.centre r.turns))

/-! ## The checks (R65 to R67, R69, R77, R78) -/

/-- The x-extent over which an entry is held to the bed: its end point, and for a corner its whole extent (R77). -/
def bedExtent (extent : Shape → Int × Int) (along : Point → Int) (e : QueueEntry) : Int × Int :=
  match e.shape with
  | none => (0, 0)
  | some s => if s.arc.isSome then extent s else (along s.stop, along s.stop)

/-- Every entry lies within the limits of one axis (R77). -/
def withinBed (lo hi : Int) (extent : Shape → Int × Int) (along : Point → Int) (es : List QueueEntry) : Bool :=
  es.all (fun e => let x := bedExtent extent along e; decide (lo ≤ x.1) && decide (x.2 ≤ hi))

/-- The field checks of a Place whose definitions are found, by the detail word of Table 4-2. -/
def placeChecks (s : State) (r : PlaceReq) (c : Compensation) (es : List QueueEntry) : List (Nat × Bool) :=
  [(5, decide (r.turns ≤ 3)), (18, !c.widthFails), (19, !c.depthFails),
   (3, withinBed s.cfg.xMin s.cfg.xMax xExtent Point.x es),
   (4, withinBed s.cfg.yMin s.cfg.yMax yExtent Point.y es)]

/-- The checks of a Place after the controller's own, in the order of R65: a refusal's code and detail, or the
expansion. -/
def placeOutcome (s : State) (r : PlaceReq) : Except (ResultCode × Nat) (Compensation × List QueueEntry) :=
  match sequenceCheck s r.seq with
  | some e => .error e
  | none =>
    match s.template r.template with
    | none => .error (.noSlot, 256 + r.template)
    | some t =>
      match slotCheck s (placeSlot r t) with
      | some e => .error e
      | none =>
        if s.tables.nozzle.isNone then .error (.noSlot, 512)
        else
          let (c, es) := expand s r t s.wear.kerf
          match firstFault (placeChecks s r c es) with
          | some n => .error (.range, n)
          | none =>
            match freeCheck s es.length with
            | some e => .error e
            | none => .ok (c, es)

/-- The expansion summary (R79). -/
def placeSummary (k : Nat) (c : Compensation) (count : Nat) : PlaceSummary :=
  { count := count, kerf := k, enlarged := c.enlarged, leadInClamped := c.leadInClamped, bridgeClamped := c.bridgeClamped,
    radius := c.radius.toNat, leadIn := c.leadIn.toNat, bridge := c.bridge.toNat }

end Sys2Proof.Machine
end

