-- ==== Sys2Proof/WellFormed.lean ====
section
/-! DEFINITION. WellFormed.lean: the check that every operand of a command fits the place the spec gives it: the
fields of a request fit the widths of their payload (R173, Tables 11-8 and 11-9), and what an event carries fits the
field that shows it. Whether a field that fits is also IN RANGE is not checked here: that is the owner's own check,
with its own refusal. -/

namespace Sys2Proof

/-- An unsigned field of `w` bytes holds `n`. -/
def fitsU (w n : Nat) : Bool := decide (n < 256 ^ w)

/-- A signed two's complement field of `w` bytes holds `i` (R173). -/
def fitsS (w : Nat) (i : Int) : Bool :=
  decide (-((256 ^ w / 2 : Nat) : Int) ≤ i) && decide (i < ((256 ^ w / 2 : Nat) : Int))

/-- A point whose coordinates travel in 4 bytes each. -/
def Point.fits (p : Point) : Bool := fitsS 4 p.x && fitsS 4 p.y

/-- Field widths of the Configure payload, 85 bytes in all (R173). -/
def ConfigRec.wellFormed (r : ConfigRec) : Bool :=
  fitsS 4 r.xMin && fitsS 4 r.xMax && fitsS 4 r.yMin && fitsS 4 r.yMax && fitsS 4 r.homeX && fitsS 4 r.homeY
  && fitsU 1 r.zoneCount && fitsS 4 r.split && fitsU 2 r.traverseSpeed && fitsU 2 r.aCut && fitsU 2 r.aTraverse
  && fitsU 2 r.aEmergency && fitsU 2 r.closeAhead && fitsU 2 r.rMin && fitsU 2 r.ceiling && fitsU 1 r.tolerance
  && fitsU 1 r.standbyPressure && fitsU 2 r.startTimeout && fitsU 2 r.rampTimeout && fitsU 4 r.standbyDelay
  && fitsU 4 r.offDelay && fitsU 2 r.dipTime && fitsU 2 r.settleTime && fitsU 2 r.abrasiveLead
  && fitsU 2 r.abrasiveWindow && fitsU 2 r.valveTimeout && fitsU 2 r.zTimeout && fitsU 4 r.homingTimeout
  && fitsU 2 r.warnLimit && fitsU 2 r.faultLimit && fitsU 2 r.excursionThreshold && fitsU 2 r.overlap
  && fitsU 4 r.backtrackLimit

/-- Field widths of the Material payload, 28 bytes in all (R173). -/
def MaterialReq.wellFormed (r : MaterialReq) : Bool :=
  fitsU 1 r.slot && fitsU 2 r.q1 && fitsU 2 r.q2 && fitsU 2 r.q3 && fitsU 2 r.q4 && fitsU 2 r.q5 && fitsU 2 r.pPierce
  && fitsU 2 r.pCut && fitsU 2 r.dwell && fitsU 1 r.method && fitsU 2 r.creepSpeed && fitsU 2 r.rate && fitsU 4 r.knee
  && fitsU 1 r.arcFloor && fitsU 1 r.cMin

/-- Field widths of the Nozzle payload, 13 bytes in all (R173). -/
def NozzleReq.wellFormed (r : NozzleReq) : Bool :=
  fitsU 2 r.k0 && fitsU 1 r.growth && fitsU 2 r.kMax && fitsU 4 r.compare && fitsU 4 r.used

/-- Field widths of the Template payload, 23 bytes in all (R173). -/
def TemplateReq.wellFormed (r : TemplateReq) : Bool :=
  fitsU 1 r.slot && fitsU 4 r.width && fitsU 4 r.depth && fitsU 4 r.radius && fitsU 4 r.leadIn && fitsU 2 r.bridge
  && fitsU 1 r.direction && fitsU 1 r.quality && fitsU 1 r.material && fitsU 1 r.method

/-- Field widths of the Segment payload (Table 11-8). -/
def SegmentReq.wellFormed (r : SegmentReq) : Bool :=
  fitsU 1 r.kind && r.stop.fits && r.centre.fits && fitsU 1 r.slot && fitsU 1 r.quality && fitsU 1 (r.method.getD 0)

/-- Field widths of the Place payload (Table 11-9). -/
def PlaceReq.wellFormed (r : PlaceReq) : Bool :=
  fitsU 1 r.template && r.centre.fits && fitsU 1 r.turns && fitsU 1 (r.slotOverride.getD 0)

/-- A request whose fields fit its payload. -/
def Request.wellFormed : Request → Bool
  | .configure r => r.wellFormed
  | .material r => r.wellFormed
  | .nozzle r => r.wellFormed
  | .template r => r.wellFormed
  | .segment r => r.wellFormed
  | .place r => r.wellFormed
  | .pressure level slot => fitsU 1 level && fitsU 1 slot
  | .override percent => fitsU 2 percent
  | .run => true
  | .hold => true
  | .resume => true
  | .stop => true
  | .clear => true
  | .reference => true
  | .query => true
  | .restart => true

/-- A command whose operands fit the places the spec gives them. A transducer reading is shown in 2 bytes and an
actual position in 4 signed bytes (Table 11-7). -/
def Instr.wellFormed : Instr → Bool
  | .configure _ r => r.wellFormed
  | .material _ r => r.wellFormed
  | .nozzle _ r => r.wellFormed
  | .template _ r => r.wellFormed
  | .segment _ r => r.wellFormed
  | .place _ r => r.wellFormed
  | .run _ => true
  | .hold _ => true
  | .resume _ => true
  | .stop _ => true
  | .clear _ => true
  | .reference _ => true
  | .pressure _ level slot => fitsU 1 level && fitsU 1 slot
  | .override _ percent => fitsU 2 percent
  | .query _ => true
  | .restart _ => true
  | .receivedByte _ => true
  | .gapTimerExpiry => true
  | .transmitComplete => true
  | .powerOnReset => true
  | .tripInputActive _ => true
  | .tripInputInactive _ => true
  | .residencyExpiry => true
  | .interpolationPeriod fbX fbY _ _ => fitsS 4 fbX && fitsS 4 fbY
  | .homingTimeout => true
  | .zReachedChange _ => true
  | .zTimeout => true
  | .driveReadyInactive _ => true
  | .driveReadyActive _ => true
  | .settleTimerExpiry => true
  | .leadTimerExpiry => true
  | .dwellTimerExpiry => true
  | .valveSwitchActive => true
  | .valveSwitchInactive => true
  | .valveTimerExpiry => true
  | .abrasivePulse => true
  | .abrasiveWindowExpiry => true
  | .pumpRunningActive => true
  | .pumpRunningInactive => true
  | .startTimerExpiry => true
  | .transducerReading mpa => fitsU 2 mpa
  | .rampTimerExpiry => true
  | .bandTimerExpiry => true
  | .standbyTimerExpiry => true
  | .offTimerExpiry => true
  | .guardOpen _ => true
  | .guardClosed _ => true
  | .minuteEvent => true

end Sys2Proof
end

