-- ==== Sys2Proof/Decode.lean ====
section
/-! DEFINITION. Decode.lean: from bytes to requests and back. The opcode table gives no row any bits, so
`decodeTableWord` answers `none` on every word. What the part does decode is the payload of a frame on its serial link
(R173, Tables 11-3, 11-8, 11-9): `parseRequest` reads it and `encodeRequest` writes it, from the same field widths.
The 16-bit CRC of a frame (R170) stands here too. -/

namespace Sys2Proof

/-! ## Fields of little-endian bytes (Section 0.5.4) -/

/-- The `w` bytes of `n`, least significant first. -/
def leBytes : Nat → Nat → List Byte
  | 0, _ => []
  | w + 1, n => BitVec.ofNat 8 n :: leBytes w (n / 256)

/-- The number a list of bytes spells, least significant first. -/
def leNat : List Byte → Nat
  | [] => 0
  | b :: bs => b.toNat + 256 * leNat bs

/-- A signed value as the unsigned content of a two's complement field of `w` bytes. -/
def ofSigned (w : Nat) (i : Int) : Nat := (i % ((256 ^ w : Nat) : Int)).toNat

/-- The signed value of a two's complement field of `w` bytes. -/
def toSigned (w n : Nat) : Int :=
  if n < 256 ^ w / 2 then (n : Int) else (n : Int) - ((256 ^ w : Nat) : Int)

/-- Reads consecutive fields of the given widths. -/
def readFields : List Nat → List Byte → List Nat
  | [], _ => []
  | w :: ws, bs => leNat (bs.take w) :: readFields ws (bs.drop w)

/-- Writes consecutive fields, each given as its width and its content. -/
def writeFields : List (Nat × Nat) → List Byte
  | [] => []
  | (w, n) :: fs => leBytes w n ++ writeFields fs

/-- Bit `k` of a flags byte. -/
def flagBit (flags k : Nat) : Bool := flags / 2 ^ k % 2 == 1

/-- A flags byte from its bits 0, 1 and 2. -/
def packFlags (b0 b1 b2 : Bool) : Nat := b0.toNat + 2 * b1.toNat + 4 * b2.toNat

/-! ## The record payloads -/

/-- Field widths of the Configure payload (R173), 85 bytes. -/
def configWidths : List Nat :=
  [4, 4, 4, 4, 4, 4, 1, 4, 2, 2, 2, 2, 2, 2, 2, 1, 1, 2, 2, 4, 4, 2, 2, 2, 2, 2, 2, 4, 2, 2, 2, 2, 4]

/-- The Configure record in the order of Table 1-8. -/
def ConfigRec.fields (r : ConfigRec) : List Nat :=
  [ofSigned 4 r.xMin, ofSigned 4 r.xMax, ofSigned 4 r.yMin, ofSigned 4 r.yMax, ofSigned 4 r.homeX, ofSigned 4 r.homeY,
    r.zoneCount, ofSigned 4 r.split, r.traverseSpeed, r.aCut, r.aTraverse, r.aEmergency, r.closeAhead, r.rMin,
    r.ceiling, r.tolerance, r.standbyPressure, r.startTimeout, r.rampTimeout, r.standbyDelay, r.offDelay, r.dipTime,
    r.settleTime, r.abrasiveLead, r.abrasiveWindow, r.valveTimeout, r.zTimeout, r.homingTimeout, r.warnLimit,
    r.faultLimit, r.excursionThreshold, r.overlap, r.backtrackLimit]

/-- The Configure record spelled by its 33 fields. -/
def ConfigRec.ofFields : List Nat → Option ConfigRec
  | xMin :: xMax :: yMin :: yMax :: homeX :: homeY :: zoneCount :: split :: traverseSpeed :: aCut :: aTraverse ::
      aEmergency :: closeAhead :: rMin :: ceiling :: tolerance :: standbyPressure :: startTimeout :: rampTimeout ::
      standbyDelay :: offDelay :: dipTime :: settleTime :: abrasiveLead :: abrasiveWindow :: valveTimeout :: zTimeout
      :: homingTimeout :: warnLimit :: faultLimit :: excursionThreshold :: overlap :: backtrackLimit :: [] =>
    some ⟨toSigned 4 xMin, toSigned 4 xMax, toSigned 4 yMin, toSigned 4 yMax, toSigned 4 homeX, toSigned 4 homeY,
      zoneCount, toSigned 4 split, traverseSpeed, aCut, aTraverse, aEmergency, closeAhead, rMin, ceiling, tolerance,
      standbyPressure, startTimeout, rampTimeout, standbyDelay, offDelay, dipTime, settleTime, abrasiveLead,
      abrasiveWindow, valveTimeout, zTimeout, homingTimeout, warnLimit, faultLimit, excursionThreshold, overlap,
      backtrackLimit⟩
  | _ => none

/-- Field widths of the Material payload (R173), 28 bytes. -/
def materialWidths : List Nat := [1, 2, 2, 2, 2, 2, 2, 2, 2, 1, 2, 2, 4, 1, 1]

/-- The Material record in the order of Table 3-1. -/
def MaterialReq.fields (r : MaterialReq) : List Nat :=
  [r.slot, r.q1, r.q2, r.q3, r.q4, r.q5, r.pPierce, r.pCut, r.dwell, r.method, r.creepSpeed, r.rate, r.knee,
    r.arcFloor, r.cMin]

/-- The Material record spelled by its 15 fields. -/
def MaterialReq.ofFields : List Nat → Option MaterialReq
  | [f1, f2, f3, f4, f5, f6, f7, f8, f9, f10, f11, f12, f13, f14, f15] =>
    some ⟨f1, f2, f3, f4, f5, f6, f7, f8, f9, f10, f11, f12, f13, f14, f15⟩
  | _ => none

/-- Field widths of the Nozzle payload (R173), 13 bytes. -/
def nozzleWidths : List Nat := [2, 1, 2, 4, 4]

/-- The Nozzle record in the order of Table 3-3. -/
def NozzleReq.fields (r : NozzleReq) : List Nat := [r.k0, r.growth, r.kMax, r.compare, r.used]

/-- The Nozzle record spelled by its 5 fields. -/
def NozzleReq.ofFields : List Nat → Option NozzleReq
  | [f1, f2, f3, f4, f5] => some ⟨f1, f2, f3, f4, f5⟩
  | _ => none

/-- Field widths of the Template payload (R173), 23 bytes. -/
def templateWidths : List Nat := [1, 4, 4, 4, 4, 2, 1, 1, 1, 1]

/-- The Template record in the order of Table 3-4. -/
def TemplateReq.fields (r : TemplateReq) : List Nat :=
  [r.slot, r.width, r.depth, r.radius, r.leadIn, r.bridge, r.direction, r.quality, r.material, r.method]

/-- The Template record spelled by its 10 fields. -/
def TemplateReq.ofFields : List Nat → Option TemplateReq
  | [f1, f2, f3, f4, f5, f6, f7, f8, f9, f10] => some ⟨f1, f2, f3, f4, f5, f6, f7, f8, f9, f10⟩
  | _ => none

/-- Field widths of the Segment payload (Table 11-8), 25 bytes. -/
def segmentWidths : List Nat := [2, 1, 1, 4, 4, 4, 4, 1, 1, 1, 2]

/-- The Segment payload in the order of Table 11-8; an absent optional field travels as zero (Section 2.2). -/
def SegmentReq.fields (r : SegmentReq) : List Nat :=
  [r.seq.toNat, r.kind, packFlags r.report r.method.isSome r.tag.isSome, ofSigned 4 r.stop.x, ofSigned 4 r.stop.y,
    ofSigned 4 r.centre.x, ofSigned 4 r.centre.y, r.slot, r.quality, r.method.getD 0, (r.tag.getD 0).toNat]

/-- The Segment record spelled by its payload fields; flag bits not named are not read (Table 11-9's closing line). -/
def SegmentReq.ofFields : List Nat → Option SegmentReq
  | [seq, kind, flags, ex, ey, cx, cy, slot, quality, method, tag] =>
    some { seq := BitVec.ofNat 16 seq, kind := kind, stop := ⟨toSigned 4 ex, toSigned 4 ey⟩,
           centre := ⟨toSigned 4 cx, toSigned 4 cy⟩, slot := slot, quality := quality,
           method := if flagBit flags 1 then some method else none, report := flagBit flags 0,
           tag := if flagBit flags 2 then some (BitVec.ofNat 16 tag) else none }
  | _ => none

/-- Field widths of the Place payload (Table 11-9), 16 bytes. -/
def placeWidths : List Nat := [2, 1, 1, 4, 4, 1, 1, 2]

/-- The Place payload in the order of Table 11-9. -/
def PlaceReq.fields (r : PlaceReq) : List Nat :=
  [r.seq.toNat, r.template, packFlags r.report r.slotOverride.isSome r.tag.isSome, ofSigned 4 r.centre.x,
    ofSigned 4 r.centre.y, r.turns, r.slotOverride.getD 0, (r.tag.getD 0).toNat]

/-- The Place record spelled by its payload fields. -/
def PlaceReq.ofFields : List Nat → Option PlaceReq
  | [seq, template, flags, cx, cy, turns, slot, tag] =>
    some { seq := BitVec.ofNat 16 seq, template := template, centre := ⟨toSigned 4 cx, toSigned 4 cy⟩, turns := turns,
           slotOverride := if flagBit flags 1 then some slot else none, report := flagBit flags 0,
           tag := if flagBit flags 2 then some (BitVec.ofNat 16 tag) else none }
  | _ => none

/-! ## Requests -/

/-- The kind byte of a request frame (Table 11-3). -/
def Request.kindByte : Request → Nat
  | .configure _ => 0x01
  | .material _ => 0x02
  | .nozzle _ => 0x03
  | .template _ => 0x04
  | .segment _ => 0x05
  | .place _ => 0x06
  | .run => 0x07
  | .hold => 0x08
  | .resume => 0x09
  | .stop => 0x0A
  | .clear => 0x0B
  | .reference => 0x0C
  | .pressure _ _ => 0x0D
  | .override _ => 0x0E
  | .query => 0x0F
  | .restart => 0x10

/-- The payload length Table 11-3 gives for a kind; `none` for a kind that names no request. -/
def payloadLength : Nat → Option Nat
  | 0x01 => some 85
  | 0x02 => some 28
  | 0x03 => some 13
  | 0x04 => some 23
  | 0x05 => some 25
  | 0x06 => some 16
  | 0x07 => some 0
  | 0x08 => some 0
  | 0x09 => some 0
  | 0x0A => some 0
  | 0x0B => some 0
  | 0x0C => some 0
  | 0x0D => some 2
  | 0x0E => some 2
  | 0x0F => some 0
  | 0x10 => some 0
  | _ => none

/-- The request a payload of the right length spells, by the kind of its frame (R173). -/
def parseRequest (kind : Nat) (payload : List Byte) : Option Request :=
  match kind with
  | 0x01 => (ConfigRec.ofFields (readFields configWidths payload)).map .configure
  | 0x02 => (MaterialReq.ofFields (readFields materialWidths payload)).map .material
  | 0x03 => (NozzleReq.ofFields (readFields nozzleWidths payload)).map .nozzle
  | 0x04 => (TemplateReq.ofFields (readFields templateWidths payload)).map .template
  | 0x05 => (SegmentReq.ofFields (readFields segmentWidths payload)).map .segment
  | 0x06 => (PlaceReq.ofFields (readFields placeWidths payload)).map .place
  | 0x07 => some .run
  | 0x08 => some .hold
  | 0x09 => some .resume
  | 0x0A => some .stop
  | 0x0B => some .clear
  | 0x0C => some .reference
  | 0x0D => some (.pressure (leNat (payload.take 1)) (leNat (payload.drop 1)))
  | 0x0E => some (.override (leNat payload))
  | 0x0F => some .query
  | 0x10 => some .restart
  | _ => none

/-- The payload of a request. -/
def encodeRequest : Request → List Byte
  | .configure r => writeFields (configWidths.zip r.fields)
  | .material r => writeFields (materialWidths.zip r.fields)
  | .nozzle r => writeFields (nozzleWidths.zip r.fields)
  | .template r => writeFields (templateWidths.zip r.fields)
  | .segment r => writeFields (segmentWidths.zip r.fields)
  | .place r => writeFields (placeWidths.zip r.fields)
  | .pressure level slot => leBytes 1 level ++ leBytes 1 slot
  | .override percent => leBytes 2 percent
  | .run => []
  | .hold => []
  | .resume => []
  | .stop => []
  | .clear => []
  | .reference => []
  | .query => []
  | .restart => []

/-! ## Frames -/

/-- One bit of the CRC: shift left, and fold the polynomial 1021h in when the bit shifted out was set (R170). -/
def crcBit (c : BitVec 16) : BitVec 16 :=
  if c.getMsbD 0 then (c <<< 1) ^^^ 0x1021#16 else c <<< 1

/-- One byte of the CRC, its bits taken most significant first (R170). -/
def crcByte (c : BitVec 16) (b : Byte) : BitVec 16 :=
  let d := c ^^^ (b.zeroExtend 16 <<< 8)
  crcBit (crcBit (crcBit (crcBit (crcBit (crcBit (crcBit (crcBit d)))))))

/-- The CRC of a frame: polynomial 1021h, initial value FFFFh, over the bytes from offset 2 through the last payload
byte, no final inversion (R170). -/
def crc (bytes : List Byte) : BitVec 16 := bytes.foldl crcByte 0xFFFF#16

/-- A whole frame: preamble C3h 5Ah, length, kind, frame tag, payload and CRC (Table 11-1). -/
def frameBytes (kind : Nat) (tag : Byte) (payload : List Byte) : List Byte :=
  let body := leBytes 2 payload.length ++ leBytes 1 kind ++ [tag] ++ payload
  [0xC3#8, 0x5A#8] ++ body ++ leBytes 2 (crc body).toNat

/-- The opcode table gives its rows no bits, so no word spells a command. -/
def decodeTableWord (_nbits _w : Nat) : Option Instr := none

end Sys2Proof
end

