-- ==== Sys2Proof/Machine/Planner.lean ====
section
/-! DEFINITION. Machine/Planner.lean: the Feed Planner's arithmetic (Chapter 5): segment and junction limits, the plan
path, the planned stops with what a replan keeps of them, the ZONE stops, and the planned speed at a point. What calls
for a replan, and what arrival at a stop causes, is in Machine/Motion.lean. -/

namespace Sys2Proof.Machine

open Sys2Proof

/-! ## Bounds (R89, R90) -/

/-- The speed from which `vj` is reached over `L` µm at `a` mm/s² (R89); the forward bound has the same form (R90). -/
def bound (vj a L : Nat) : Nat := isqrt (vj * vj + 72 * a * L / 10)

/-- The least whole number of µm over which `a` takes the square of a speed from `n` to 0 (R89). -/
def distFor (n a : Nat) : Nat := if a = 0 then 0 else (10 * n + 72 * a - 1) / (72 * a)

/-- The stopping distance from `v` at `a` (R89). -/
def stopDist (v a : Nat) : Nat := distFor (v * v) a

/-- The distance to slow from `v1` to `v2` at `a` (R89). -/
def slowDist (v1 v2 a : Nat) : Nat := distFor (v1 * v1 - v2 * v2) a

/-! ## Segment speed limits (R83 to R85) -/

/-- The limit of a cutting entry before the floor of 1 (R83, R84). -/
def cutLimit (m : MaterialRec) (override quality : Nat) (arc : Option ArcGeom) : Nat :=
  let q := m.speed quality
  let v := q * override / 100
  match arc with
  | none => v
  | some a =>
    if m.knee = 0 ∨ m.knee ≤ a.radius then v
    else min v (max (v * a.radius / m.knee) (q * m.arcFloor / 100))

/-- The segment speed limit of a queue entry at an override percent (R83 to R85); an END has none, for which 0 stands.
-/
def limitWith (s : State) (override : Nat) (e : QueueEntry) : Nat :=
  match e.kind with
  | .traverse => s.cfg.traverseSpeed
  | .segEnd => 0
  | .line | .arcCw | .arcCcw =>
    match s.entryMaterial e with
    | some m => max 1 (cutLimit m override (e.quality.getD 5) (e.shape.bind Shape.arc))
    | none => 1

/-- The segment speed limit of a queue entry at the override percent in force. -/
def entryLimit (s : State) (e : QueueEntry) : Nat := limitWith s s.job.override e

/-- The segment speed limit that stands up to a transition point, or the limit in force when there is none (R93). -/
def formerLimit (s : State) (e : QueueEntry) : Nat :=
  limitWith s ((s.plan.transition.map Transition.former).getD s.job.override) e

/-- The backtrack speed (R85). -/
def backtrackSpeed (c : ConfigRec) : Nat := min c.traverseSpeed 2000

/-! ## The plan path (R82) -/

/-- The acceleration and deceleration of a leg: a_cut on cutting entries and the backtrack (R88, R90). -/
def Leg.accel (c : ConfigRec) (l : Leg) : Nat := if l.cutting || l.kind == .backtrack then c.aCut else c.aTraverse

/-- A TRAVERSE or the approach. -/
def Leg.isTraverse (l : Leg) : Bool := !l.cutting && !l.isEnd && l.kind != .backtrack

/-- The leg of a queue entry, whole. -/
def entryLeg (s : State) (e : QueueEntry) : Leg :=
  { kind := .entry, cutting := e.kind.cutting, opens := e.opens, isEnd := e.kind == .segEnd, shape := e.shape,
    base := 0, len := (e.shape.map Shape.length).getD 0, limit := entryLimit s e,
    former := formerLimit s e, junction := 0, formerJunction := 0, delta := none }

/-- The leg of the approach (R31). -/
def approachLeg (c : ConfigRec) (a : Shape) : Leg :=
  { kind := .approach, cutting := false, opens := false, isEnd := false, shape := some a, base := 0, len := a.length,
    limit := c.traverseSpeed, former := c.traverseSpeed, junction := 0, formerJunction := 0, delta := none }

/-- The leg of a partial entry cut forward (R85). -/
def recutLeg (p : Partial) : Leg :=
  { kind := .recut, cutting := true, opens := false, isEnd := false, shape := some p.shape, base := 0,
    len := p.shape.length, limit := p.limit, former := p.limit, junction := 0, formerJunction := 0, delta := none }

/-- The leg of a partial entry on the backtrack; its shape keeps the forward direction. -/
def backtrackLeg (c : ConfigRec) (p : Partial) : Leg :=
  { kind := .backtrack, cutting := false, opens := false, isEnd := false, shape := some p.shape, base := 0,
    len := p.shape.length, limit := backtrackSpeed c, former := backtrackSpeed c, junction := 0, formerJunction := 0,
    delta := none }

/-- The tangent with which the head leaves a leg (R86). -/
def Leg.exit (l : Leg) : Option Vec :=
  match l.shape with
  | none => none
  | some s => if l.kind = .backtrack then (entryTangent s).map reversed else exitTangent s

/-- The tangent with which the head enters a leg (R86). -/
def Leg.enter (l : Leg) : Option Vec :=
  match l.shape with
  | none => none
  | some s => if l.kind = .backtrack then (exitTangent s).map reversed else entryTangent s

/-- The deflection at the junction of two legs; 0 where the recut meets the executing entry (R87). -/
def legDelta (a b : Leg) : Option Nat :=
  if a.kind = .recut ∧ b.kind = .entry then some 0 else deflection a.exit b.enter

/-- The corner factor (Table 5-2). -/
def cornerFactor (cMin δ : Nat) : Nat :=
  if δ ≤ 50 then 100 else if δ < 950 then 100 - (100 - cMin) * (δ - 50) / 900 else cMin

/-- The junction limit (R87), with the corner floor that applies and the segment limits that stand; 0 at a jet change
and where there is no tangent. -/
def junctionLimit (c : ConfigRec) (cMin : Nat) (limit : Leg → Nat) (a b : Leg) : Nat :=
  match legDelta a b with
  | none => 0
  | some δ =>
    if a.kind = .backtrack then (if δ ≤ 50 then backtrackSpeed c else 0)
    else if a.cutting && b.cutting then min (limit a) (limit b) * cornerFactor cMin δ / 100
    else if a.isTraverse && b.isTraverse then (if δ ≤ 50 then c.traverseSpeed else 0)
    else 0

/-- Legs, each with the corner floor of its material, joined by their junctions. -/
def linkLegs (c : ConfigRec) : List (Leg × Nat) → List Leg
  | [] => []
  | [(l, _)] => [l]
  | (a, _) :: (b, k) :: rest =>
    { a with junction := junctionLimit c k Leg.limit a b, formerJunction := junctionLimit c k Leg.former a b
             delta := legDelta a b } :: linkLegs c ((b, k) :: rest)

/-- The corner floor of an entry's material. -/
def entryCMin (s : State) (e : QueueEntry) : Nat := ((s.entryMaterial e).map MaterialRec.cMin).getD 0

/-- The queue entries as legs; while a Recovery Path stands ahead of them, the first begins at its progress. -/
def queueLegs (s : State) (base : Nat) : List (Leg × Nat) :=
  match s.queue.entries with
  | [] => []
  | e :: es =>
    let l := entryLeg s e
    ({ l with base := base, len := l.len - base }, entryCMin s e)
      :: es.map (fun e => (entryLeg s e, entryCMin s e))

/-- The plan path (R82, R98): on the backtrack the Recovery Path reversed, on the recut its entries and then the queue,
otherwise the approach and the queue. -/
def planLegs (s : State) : List Leg :=
  match s.queue.recPath with
  | [] =>
    linkLegs s.cfg ((s.plan.approach.toList.map (fun a => (approachLeg s.cfg a, 0))) ++ queueLegs s 0)
  | p :: ps =>
    if s.queue.recBack then linkLegs s.cfg ((p :: ps).reverse.map (fun p => (backtrackLeg s.cfg p, 0)))
    else
      let k := (s.queueHead.map (entryCMin s)).getD 0
      linkLegs s.cfg ((p :: ps).map (fun p => (recutLeg p, k)) ++ queueLegs s s.queue.progress)

/-- The length of the plan path. -/
def pathLength : List Leg → Nat
  | [] => 0
  | l :: ls => l.len + pathLength ls

/-! ## Planned stops (R88, Table 5-4) -/

/-- The stops at the junction of two legs at position `q`. -/
def junctionStops (c : ConfigRec) (q : Int) (a b : Leg) : List Stop :=
  let stop (k : StopKind) (inside : Bool) : Stop :=
    { kind := k, pos := q, decel := a.accel c, committed := false, zone := none, inside := inside }
  (if a.cutting && !b.cutting then [stop .jetOff true] else [])
  ++ (if b.isEnd then [stop .segEnd a.cutting] else [])
  ++ (if a.isTraverse && b.opens then [stop .pierce false] else [])

/-- The stop at the end of the last leg. No QUEUE_END is placed behind an END, whose own stop stands there (log entry
14). -/
def endStop (c : ConfigRec) (q : Int) (l : Leg) : List Stop :=
  let stop (k : StopKind) (inside : Bool) : Stop :=
    { kind := k, pos := q, decel := l.accel c, committed := false, zone := none, inside := inside }
  if l.isEnd then []
  else match l.kind with
    | .backtrack => [stop .restart false]
    | .recut => [stop .jetOff true]
    | .approach => [stop .queueEnd false]
    | .entry => [stop .queueEnd l.cutting]

/-- The stops that the legs themselves call for, from position `p` on. -/
def legStops (c : ConfigRec) : Int → List Leg → List Stop
  | _, [] => []
  | p, [l] => endStop c (p + l.len) l
  | p, a :: b :: rest => junctionStops c (p + a.len) a b ++ legStops c (p + a.len) (b :: rest)

/-- The stops at the start of the path: an END at the queue head, and a PIERCE where the head stands at an opening entry
whose pierce has not opened the jet. A valve that stands open where no cutting entry goes on ends a cut there, at a
JET_OFF stop or at the end of the queue (R88, R99). -/
def startStops (s : State) (legs : List Leg) : List Stop :=
  let isOpen := s.jet.state.valveOpen
  let stop (k : StopKind) : Stop :=
    { kind := k, pos := 0, decel := if isOpen then s.cfg.aCut else s.cfg.aTraverse, committed := false, zone := none
      inside := isOpen }
  if s.axis.pathPos ≠ 0 then []
  else match legs with
    | [] => if isOpen then [stop .queueEnd] else []
    | l :: _ =>
      (if isOpen && !l.cutting then [stop .jetOff] else [])
      ++ (if l.isEnd then [stop .segEnd] else [])
      ++ (if l.opens && s.jet.contour.isNone then [stop .pierce] else [])

/-- A point of the path lies inside a contour: between two cutting entries, or, at the start of the path, before a
cutting entry whose contour has been opened. -/
def insideAt (contour : Bool) (legs : List Leg) (x : Int) : Bool :=
  match legs with
  | [] => false
  | l :: ls => (x == 0 && l.cutting && (!l.opens || contour)) || go 0 (l :: ls)
where
  go : Int → List Leg → Bool
    | _, [] => false
    | _, [_] => false
    | p, a :: b :: rest =>
      (p + (a.len : Int) == x && a.cutting && b.cutting) || go (p + (a.len : Int)) (b :: rest)

/-- A committed stop that becomes a RESTART stop when it lies inside a contour and the legs do not call for it: a
QUEUE_END passed by an append (R94), a ZONE stop whose zone opened again (R97), and a RESTART stop, which stands. -/
def lapsed (u : ZoneUnit) (t : Stop) : Bool :=
  t.committed && (match t.kind, t.zone with
    | .queueEnd, _ => true
    | .restart, _ => true
    | .zone, some z => !u.closed z
    | _, _ => false)

/-- The restart that a lapsed stop at the head still asks for: none once the jet is OPEN there, nor while a creep
stretch is laid from it (R91; log entry 17). -/
def restartsHere (s : State) : Bool := s.jet.state != .opened && !(s.inRun .piercing && s.plan.creep.isSome)

/-- What a stop at the head's position, whose leg has left the path, becomes (R88, R94). While the head still moves a
JET_OFF stop stands, and so does, before a TRAVERSE, the committed QUEUE_END of a cut as a JET_OFF stop; a QUEUE_END
stands while nothing follows it. -/
def stopAtHead (s : State) (legs : List Leg) (t : Stop) : List Stop :=
  match t.kind, legs with
  | .jetOff, _ => if 0 < s.pathSpeed then [t] else []
  | .queueEnd, [] => [t]
  | _, l :: _ =>
    if lapsed s.zone t && restartsHere s && insideAt s.jet.contour.isSome legs t.pos then
      [{ t with kind := .restart, zone := none }]
    else if t.kind == .queueEnd && t.committed && t.inside && l.isTraverse && decide (0 < s.pathSpeed) then
      [{ t with kind := .jetOff }]
    else []
  | _, [] => []

/-- What a replan keeps of a stop that the legs do not call for. -/
def carriedStop (s : State) (legs : List Leg) (t : Stop) : List Stop :=
  if s.queue.recBack then []
  else if (s.axis.pathPos : Int) < 60 * t.pos then
    if lapsed s.zone t && insideAt s.jet.contour.isSome legs t.pos then [{ t with kind := .restart, zone := none }] else []
  else if (s.axis.pathPos : Int) = 60 * t.pos then stopAtHead s legs t
  else []

/-- The stop that keeps the head still while a sequence is in progress at its position (R104). -/
def sequenceStop (s : State) : List Stop :=
  if s.inRun .piercing && s.plan.creep.isNone && s.jet.state != .opened then
    let k : StopKind := if s.jet.contour.isSome && !s.jet.incomplete then .restart else .pierce
    [{ kind := k, pos := (s.headPos : Int), decel := s.cfg.aCut, committed := true, zone := none, inside := false }]
  else []

/-- The CREEP stop at the end of the creep stretch (R91). -/
def creepStop (s : State) : List Stop :=
  match s.plan.creep with
  | none => []
  | some k =>
    [{ kind := .creep, pos := k.stop, decel := s.cfg.aCut, committed := false, zone := none, inside := false }]

/-- Stops sorted by position, equal positions in the order given, without repeats. -/
def sortStops : List Stop → List Stop
  | [] => []
  | t :: ts =>
    let r := sortStops ts
    if r.any (fun u => u.kind == t.kind && u.pos == t.pos && u.zone == t.zone) then r else insertFirst t r
where
  insertFirst (t : Stop) : List Stop → List Stop
    | [] => [t]
    | u :: us => if t.pos ≤ u.pos then t :: u :: us else u :: insertFirst t us

/-- The stops of a replan but for the ZONE stops. A stop at a position where a committed stop stood is committed. -/
def plainStops (s : State) (legs : List Leg) : List Stop :=
  let placed := startStops s legs ++ legStops s.cfg 0 legs ++ sequenceStop s ++ creepStop s
  let kept := placed.map (fun t =>
    { t with committed := t.committed || s.plan.stops.any (fun u => u.committed && u.pos == t.pos) })
  sortStops (kept ++ (s.plan.stops.map (carriedStop s legs)).flatten)

/-! ## ZONE stops (R96) -/

/-- The junction before the first leg that touches a zone: its position, the leg before it (absent at the head's own
position) and the leg that touches. The executing entry is a candidate only while it has not begun (R159), behind the
recut too. -/
def zoneJunction (c : ConfigRec) (z : Zone) (head : Int) (begun : Bool) (legs : List Leg) :
    Option (Int × Option Leg × Leg) :=
  match legs with
  | [] => none
  | l :: ls =>
    if !begun && (l.kind == .entry || l.kind == .approach) && l.touches c z then some (head, none, l)
    else go 0 (l :: ls)
where
  go : Int → List Leg → Option (Int × Option Leg × Leg)
    | _, [] => none
    | _, [_] => none
    | p, a :: b :: rest =>
      if b.kind == .entry && (a.kind != .recut || !begun) && b.touches c z then some (p + (a.len : Int), some a, b)
      else go (p + (a.len : Int)) (b :: rest)

/-- What becomes of a closed zone at a replan: no stop is called for, a ZONE stop, or the head cannot stop in time. -/
inductive ZoneStop
  | noStop
  | stop (t : Stop)
  | unstoppable
deriving DecidableEq, Repr

/-- The first leg of the plan path has been begun (R159). -/
def State.firstBegun (s : State) : Bool :=
  match s.plan.approach with
  | some _ => s.steppedOn
  | none => s.begun

/-- The ZONE stop of a closed zone (R96), by its cases. DESIGN CHOICE (log entry 51): a replan keeps a stop already
placed for it, committed or not, at the deceleration it was first placed with (R92). `stops` are the other stops of the
plan, and one at the junction gives it its deceleration. DESIGN CHOICE (log entry 55): where a planned stop or the hold
stop lies before the junction the head stands still on the way, so the stopping distances from the present speed are not
tested and the near leg's own deceleration is taken, a_cut inside a contour. -/
def zoneStop (s : State) (legs : List Leg) (stops : List Stop) (z : Zone) : ZoneStop :=
  let head : Int := s.headPos
  match zoneJunction s.cfg z head s.firstBegun legs with
  | none => .noStop
  | some (p, near, far) =>
    let make (a : Nat) (inside : Bool) : Stop :=
      { kind := .zone, pos := p, decel := a, zone := some z, inside := inside
        committed := s.plan.stops.any (fun u => u.committed && u.pos == p) }
    match near with
    | none => .stop (make s.cfg.aTraverse (far.cutting && (!far.opens || s.jet.contour.isSome)))
    | some a =>
      match s.plan.stops.find? (fun u => u.kind == .zone && u.zone == some z && u.pos == p) with
      | some u => .stop u
      | none =>
        let inside := a.cutting && far.cutting
        let reach := (p - head).toNat
        match (stops ++ s.plan.holdStop.toList).find? (fun u => decide (head ≤ u.pos) && decide (u.pos ≤ p)) with
        | some u => .stop (make (if u.pos = p then u.decel else a.accel s.cfg) inside)
        | none =>
          if inside && decide (stopDist s.pathSpeed s.cfg.aCut ≤ reach) then .stop (make s.cfg.aCut inside)
          else if stopDist s.pathSpeed s.cfg.aTraverse ≤ reach then .stop (make s.cfg.aTraverse inside)
          else .unstoppable

/-- The closed zones in the order A, B. -/
def State.closedList (s : State) : List Zone := [Zone.a, Zone.b].filter s.zone.closed

/-- The zone stops among what the closed zones call for. -/
def zoneStops (s : State) (legs : List Leg) (stops : List Stop) : List Stop :=
  (s.closedList.map (fun z => match zoneStop s legs stops z with | .stop t => [t] | _ => [])).flatten

/-- The closed zones before which the head cannot stop. -/
def unstoppable (s : State) (legs : List Leg) (stops : List Stop) : List Zone :=
  s.closedList.filter (fun z => zoneStop s legs stops z == .unstoppable)

/-! ## A replan (R92) -/

/-- The plan made anew from the head's position and present speed. The hold stop, the transition point and the creep
stretch are kept. -/
def replanned (s : State) : Plan :=
  let legs := planLegs s
  let stops := plainStops s legs
  { s.plan with
    legs := legs
    stops := sortStops (stops ++ zoneStops s legs stops)
    anchors := [{ pos := (s.headPos : Int), speed := s.pathSpeed }] }

/-- The zones before which a replan finds that the head cannot stop. -/
def replanUnstoppable (s : State) : List Zone :=
  let legs := planLegs s
  unstoppable s legs (plainStops s legs)

/-- No plan is made in UNCONFIGURED, FAULT and TRIP (R81, R92); in ABORTING the ABORT stop stands alone (R101). -/
def State.plans (s : State) : Bool :=
  match s.job.state with
  | .idle => true
  | .homing => true
  | .run => true
  | .hold => true
  | .unconfigured => false
  | .aborting => false
  | .fault => false
  | .trip => false

/-- A replan that raises nothing. -/
def planCore (s : State) : State := if s.plans then s.setPlan (replanned s) else s

/-! ## The planned speed (R90) -/

/-- The leg at a position: from its start up to but not including its end, the last leg beyond. -/
def legAt : Int → List Leg → Option Leg
  | _, [] => none
  | _, [l] => some l
  | x, l :: ls => if x < (l.len : Int) then some l else legAt (x - l.len) ls

/-- Position `x` lies up to a transition point (R93). -/
def upTo (t : Option Transition) (x : Int) : Bool :=
  match t with
  | some t => decide (x ≤ t.pos)
  | none => false

/-- The inner junctions from position `p` on: position, limit, and the deceleration of the near side (R89). Up to a
transition point the limit is that of the former segment limits. -/
def junctions (c : ConfigRec) (t : Option Transition) : Int → List Leg → List (Int × Nat × Nat)
  | _, [] => []
  | _, [_] => []
  | p, a :: b :: rest =>
    let q := p + (a.len : Int)
    (q, if upTo t q then a.formerJunction else a.junction, a.accel c) :: junctions c t q (b :: rest)

/-- The inner junctions of the plan path. -/
def Plan.junctions (c : ConfigRec) (p : Plan) : List (Int × Nat × Nat) := Machine.junctions c p.transition 0 p.legs

/-- The least of a list of bounds and `n`. -/
def leastOf (n : Nat) : List Nat → Nat
  | [] => n
  | m :: ms => leastOf (min n m) ms

/-- The position of the next stop at or ahead of `x`. -/
def nextStop (ts : List Stop) (x : Int) : Option Int :=
  ts.foldl (fun acc t => if t.pos < x then acc else
    match acc with
    | none => some t.pos
    | some q => some (min q t.pos)) none

/-- The segment speed limit in force at `x`: before a transition point, the limit that stood before the Override; from
it on, the new limit (R93). -/
def limitAt (p : Plan) (l : Leg) (x : Int) : Nat := if upTo p.transition (x + 1) then l.former else l.limit

/-- The backward bounds on `x`: of the next stop, of the junctions ahead up to it, and of the transition point. -/
def backwardBounds (c : ConfigRec) (p : Plan) (l : Leg) (x : Int) : List Nat :=
  let next := nextStop p.allStops x
  (p.allStops.filter (fun t => some t.pos == next)).map (fun t => bound 0 t.decel (t.pos - x).toNat)
  ++ ((p.junctions c).filter (fun j => decide (x ≤ j.1) && (match next with
        | some q => decide (j.1 ≤ q)
        | none => true))).map (fun j => bound j.2.1 j.2.2 (j.1 - x).toNat)
  ++ (match p.transition with
      | some t => if x ≤ t.pos then [bound t.after (l.accel c) (t.pos - x).toNat] else []
      | none => [])

/-- The forward bounds on `x`: from the points behind it where the speed is known, and from the junctions and stops
between. DEDUCED from Table 5-6, where the speed rises from a junction as from the head (log entry 10). -/
def forwardBounds (c : ConfigRec) (p : Plan) (l : Leg) (x : Int) : List Nat :=
  (p.anchors.filter (fun a => decide (a.pos ≤ x))).map (fun a => bound a.speed (l.accel c) (x - a.pos).toNat)
  ++ ((p.junctions c).filter (fun j => decide (j.1 < x))).map
      (fun j => bound j.2.1 (l.accel c) (x - j.1).toNat)
  ++ (p.allStops.filter (fun t => decide (t.pos < x))).map (fun t => bound 0 (l.accel c) (x - t.pos).toNat)

/-- The planned speed at the whole micrometre `x` (R90). -/
def planSpeed (c : ConfigRec) (p : Plan) (x : Int) : Nat :=
  match legAt x p.legs with
  | none => 0
  | some l =>
    let creep :=
      match p.creep with
      | some k => if x ≤ k.stop then [k.limit] else []
      | none => []
    leastOf (limitAt p l x) (creep ++ backwardBounds c p l x ++ forwardBounds c p l x)

/-! ## Stops ahead -/

/-- The position in µm at which the head would stop, at `a`, from where it is: the stopping distance from the whole
micrometre it has reached, and not behind it (log entry 11). -/
def stopPoint (pathPos speed a : Nat) : Int :=
  max ((pathPos / 60 + stopDist speed a : Nat) : Int) (((pathPos + 59) / 60 : Nat) : Int)

/-- The nearest planned stop ahead of the head, or at it. -/
def nearestStop (s : State) : Option Int :=
  nextStop s.plan.allStops (((s.axis.pathPos + 59) / 60 : Nat) : Int)

/-- A stop point, or the nearest planned stop where that is nearer (R95, R101, R110). -/
def stopPointOrNearer (s : State) (a : Nat) : Int :=
  let q := stopPoint s.axis.pathPos s.pathSpeed a
  match nearestStop s with
  | some n => min n q
  | none => q

/-- The stop stands at the head's position. -/
def atHead (s : State) (t : Stop) : Bool := 60 * t.pos == (s.axis.pathPos : Int)

/-- The leg the head is on is a cutting entry. -/
def State.headLegCutting (s : State) : Bool :=
  match s.plan.legs.head? with
  | some l => l.cutting
  | none => s.jet.contour.isSome

/-- The deceleration of the leg the head is on (R88). -/
def State.headAccel (s : State) : Nat :=
  match legAt (s.headPos : Int) s.plan.legs with
  | some l => l.accel s.cfg
  | none => s.cfg.aTraverse

end Sys2Proof.Machine
end

