-- ==== Sys2Proof/Machine/Job.lean ====
section
/-! DEFINITION. Machine/Job.lean: what the Job Controller does with the conditions other blocks raise (Section 1.2):
entering FAULT and TRIP, entering HOLD and merging into it, with the flush (R45), the stop points of R110, the hold stop
(R95), the replan (R92) and the close point (R99) that go with them. -/

namespace Sys2Proof.Machine

open Sys2Proof

/-! ## Flush (R45) -/

/-- A flush: the queue, the Recovery Path and the Retired History are emptied, and so is the plan (R81). -/
def flush (s : State) : State :=
  ((s.setQueue SegQueue.empty).setPlan Plan.empty).setAxis { s.axis with pathPos := 0 }

/-! ## Stop points of R110 -/

/-- The line of one axis after an order to stop at `a` (R110); none when it does not move. The axis stops at the
stopping distance, or at its line's own end where that is nearer, in both at `a` and never above its present speed. The
end of a line that runs to a stop point already (`own` false) is that of a former order, which stands unless the later
one is nearer. -/
def stopLine (a : Nat) (own : Bool) (r : LineRun) : Option LineRun :=
  if r.speed = 0 then none
  else
    let q := r.pos60 / 60 + stopDist r.speed a
    let slowed : LineRun := { r with v0 := r.speed, vmax := r.speed, acc := a }
    match r.len with
    | none => some { slowed with len := some q }
    | some l => if q < l then some { slowed with len := some q } else if own then some slowed else some r

/-- The axis moves on a line of its own (R115, R116), and not to a stop point of R110: its run has not been ended, and
the axis is not one in RAISING that an ended run still brings to rest (log entry 32). -/
def Homing.ownLine (h : Homing) (x : AxisHoming) : Bool := !h.ending && x.phase != .raising

/-- One axis of a reference run after an order to stop at `a`. -/
def Homing.stopAxis (a : Nat) (h : Homing) (x : AxisHoming) : AxisHoming :=
  { x with run := x.run.bind (stopLine a (h.ownLine x)) }

/-- A reference run that has not succeeded ends: its axes stop at `a`, and the homing state becomes absent at standstill
(R117). -/
def endHoming (a : Nat) (h : Homing) : Option Homing :=
  let h' : Homing := { x := h.stopAxis a h.x, y := h.stopAxis a h.y, timer := none, ending := true }
  if h'.x.run.isNone && h'.y.run.isNone then none else some h'

/-- The stop point of a later order, computed from the present speed at the later deceleration, where that is nearer
(R110). -/
def nearerStop (a speed : Nat) (r : StopRun) : StopRun :=
  let q := r.pos60 / 60 + stopDist speed a
  if q < r.at_ then { r with at_ := q, decel := a, vmax := speed } else r

/-- An order of R110 to stop at `a`: along the path held, and each axis of a reference run on its line. A head at
standstill and frozen set-points fix no stop point (R111). -/
def orderStop (a : Nat) (s : State) : State :=
  if s.axis.frozen then s
  else
    let run :=
      match s.axis.stopRun, s.axis.homing with
      | some r, _ => some (nearerStop a s.axis.speed r)
      | none, some _ => none
      | none, none =>
        if s.axis.speed = 0 then none
        else some { legs := s.plan.legs, pos60 := s.axis.pathPos, at_ := (stopPointOrNearer s a).toNat, decel := a,
                    vmax := s.axis.speed }
    s.setAxis { s.axis with stopRun := run, homing := s.axis.homing.bind (endHoming a) }

/-- The head is at standstill with nothing left to run out. -/
def State.atRest (s : State) : Bool :=
  s.axis.speed == 0 && s.axis.stopRun.isNone && s.axis.homing.isNone

/-- The set-points are frozen where they stand (R111). -/
def freeze (s : State) : State :=
  (s.setAxis { s.axis with frozen := true, speed := 0, stopRun := none, homing := none }).setJob
    { s.job with referenced := false }

/-- Z is commanded CLEAR once the head stands still (R108). -/
def clearAtRest (s : State) : State := if s.atRest then zCommand .clear s else s

/-! ## FAULT and TRIP (R5 to R9) -/

/-- The hold record and the deferred-hold flag are discarded. -/
def discardHold (s : State) : State :=
  let s1 := clearHold s
  s1.setJob { s1.job with deferred := false }

/-- The kinds whose faults freeze the set-points (R7, R111). -/
def FaultKind.freezes : FaultKind → Bool
  | .following => true
  | .drive => true
  | .pumpStart | .pumpRamp | .pressureLost | .zTimeout | .homing | .abrasiveRepeat | .valve | .estop | .overpressure
  | .catcher | .valveTrip => false

/-- The kinds at which the pump's target becomes OFF rather than STANDBY (R7). -/
def FaultKind.stopsPump : FaultKind → Bool
  | .pumpStart => true
  | .pumpRamp => true
  | .following | .drive | .pressureLost | .zTimeout | .homing | .abrasiveRepeat | .valve | .estop | .overpressure
  | .catcher | .valveTrip => false

/-- Entry to FAULT (R7). DESIGN CHOICE (log entry 36): its reports are posted in the order STATE, HOLD, PRESSURE, FAULT.
-/
def enterFault (k : FaultKind) (detail : Nat) (s : State) : State :=
  let s1 := closeCommand (discardHold (setState .fault none s))
  let s2 := if k.freezes then freeze s1 else orderStop s1.cfg.aTraverse s1
  let s3 := clearJetRecords (flush s2)
  let s4 := if k.stopsPump then levelRequest ⟨.off, 0⟩ s3 else orderStandby s3
  let s5 := s4.setJob { s4.job with residency := some 2000 }
  clearAtRest (setFault { kind := some k, detail := detail, secondary := 0 } s5)

/-- A fault condition arrives (R5): in FAULT it is counted and a FAULT report posted, and in TRIP it is counted (R6). -/
def raiseFault (k : FaultKind) (detail : Nat) (s : State) : State :=
  match s.job.state with
  | .unconfigured => s
  | .fault => countInFault s
  | .trip => countSecondary s
  | .idle | .homing | .run | .hold | .aborting => enterFault k detail s

/-- Entry to TRIP (R9). The Z timer stops with the confirmation as it stands (R107). DESIGN CHOICE (log entry 36): its
reports are posted in the order STATE, HOLD, PRESSURE, FAULT. -/
def enterTrip (k : FaultKind) (detail : Nat) (s : State) : State :=
  let s1 := closeCommand (discardHold (setState .trip none s))
  let s2 := clearJetRecords (flush (orderStop s1.cfg.aEmergency s1))
  let s3 := orderTrip s2
  let s4 := (s3.setJob { s3.job with residency := none }).setAxis { s3.axis with zTimer := none }
  setFault { kind := some k, detail := detail, secondary := 0 } s4

/-- A trip condition arrives (R5, R9): in TRIP it adds to the secondary count (R6). -/
def raiseTrip (k : FaultKind) (detail : Nat) (s : State) : State :=
  if s.job.state = .trip then countSecondary s else enterTrip k detail s

/-! ## The close point (R99) -/

/-- The stops at a position become committed (R88). -/
def commitAt (q : Int) (s : State) : State :=
  let mark (t : Stop) : Stop := if t.pos = q then { t with committed := true } else t
  s.setPlan { s.plan with stops := s.plan.stops.map mark, holdStop := s.plan.holdStop.map mark }

/-- The nearest stop ahead that ends a cut. -/
def cutStop (s : State) : Option Int :=
  nextStop (s.plan.allStops.filter Stop.inside) (((s.axis.pathPos + 59) / 60 : Nat) : Int)

/-- The close point of the nearest stop that ends a cut is kept while the jet is OPEN, and handed over when it is
reached or already passed; with close-ahead 0, at standstill at the stop (R99). -/
def closeWatch (s : State) : State :=
  if s.jet.state = .opened ∧ (s.job.state = .run ∨ s.job.state = .hold) then
    match cutStop s with
    | none => s.setPlan { s.plan with closePoint := none }
    | some q =>
      let point : Int := q - s.cfg.closeAhead
      let reached :=
        if s.cfg.closeAhead = 0 then 60 * q == (s.axis.pathPos : Int) && s.axis.speed == 0
        else decide (60 * point ≤ (s.axis.pathPos : Int))
      if reached then closeCommand (commitAt q (s.setPlan { s.plan with closePoint := none }))
      else s.setPlan { s.plan with closePoint := some point }
  else s.setPlan { s.plan with closePoint := none }

/-! ## HOLD (R13 to R16, R95) -/

/-- The more serious of two hold reasons: ABRASIVE, GUARD, HOST (R15). -/
def moreSerious (a b : HoldReason) : HoldReason :=
  if a = .abrasive ∨ b = .abrasive then .abrasive else if a = .guard ∨ b = .guard then .guard else .host

/-- The hold record takes a value and a HOLD report is posted when it changes (R15). -/
def setHold (h : HoldRecord) (s : State) : State :=
  if s.job.hold = some h then s
  else post (.hold (some h.reason) h.zone) (s.setJob { s.job with hold := some h })

/-- The hold stop at a position (R95). It ends a cut on a cutting entry, and wherever the jet is OPEN (R14, R99). -/
def holdStopAt (q : Int) (a : Nat) (s : State) : Stop :=
  { kind := .hold, pos := q, decel := a, committed := true, zone := none
    inside := s.headLegCutting || s.jet.state == .opened }

/-- The creep stretch and its CREEP stop are removed. -/
def dropCreep (s : State) : State :=
  s.setPlan { s.plan with creep := none, stops := s.plan.stops.filter (fun t => t.kind != .creep) }

/-- The hold stop is put where `t` stands, the creep stretch goes, and the plan is made anew (R95). -/
def putHoldStop (t : Stop) (s : State) : State :=
  let s1 := dropCreep s
  planCore (s1.setPlan { s1.plan with holdStop := some t })

/-- The hold stop is placed at the stopping distance at `a`, or at a nearer planned stop, the CREEP stop among them
(R95). -/
def placeHoldStop (a : Nat) (s : State) : State := putHoldStop (holdStopAt (stopPointOrNearer s a) a s) s

/-- The hold stop is placed at the head: a ZONE stop there becomes it (R97), or the hold has come to rest at a planned
stop nearer than its own (log entry 54). -/
def holdHere (s : State) : State := putHoldStop (holdStopAt (s.headPos : Int) s.headAccel s) s

/-- How a hold stops the head: along the path, at a_traverse with the valve closed at once, or where it stands (R15). -/
inductive HoldWay
  | along
  | atOnce
  | here
deriving DecidableEq, Repr

/-- The deceleration a hold stops with (R95). -/
def holdAccel (w : HoldWay) (s : State) : Nat := if w = .atOnce then s.cfg.aTraverse else s.headAccel

/-- Entry to HOLD from RUN (R13, R15): the substate, the hold record with its report, a sequence in progress abandoned
(R133), and the hold stop. -/
def enterHold (sub : Substate) (r : HoldReason) (z : Option Zone) (w : HoldWay) (s : State) : State :=
  let piercing := s.job.sub == some .piercing && s.jet.state != .opened
  let s1 := setState .hold (some sub) s
  let s2 := setHold { reason := r, zone := z } (s1.setJob { s1.job with deferred := false })
  let s3 := if piercing || w == .atOnce then closeCommand s2 else s2
  let s4 := if w = .here then holdHere s3 else placeHoldStop (holdAccel w s3) s3
  closeWatch s4

/-- The hold stop moves nearer for a GUARD condition on a zone in use (R95). -/
def nearerHoldStop (s : State) : State :=
  match s.plan.holdStop with
  | some t =>
    let q := stopPoint s.axis.pathPos s.pathSpeed s.cfg.aTraverse
    if q < t.pos then
      planCore (s.setPlan { s.plan with holdStop := some { t with pos := q, decel := s.cfg.aTraverse } })
    else planCore s
  | none => planCore s

/-- A hold condition merges into the hold in force (R15, R95). -/
def mergeHold (r : HoldReason) (z : Option Zone) (w : HoldWay) (s : State) : State :=
  match s.job.hold with
  | none => s
  | some h =>
    let s1 := setHold { reason := moreSerious h.reason r, zone := z.or h.zone } s
    match w with
    | .along => closeWatch (planCore s1)
    | .here => closeWatch (holdHere s1)
    | .atOnce => if s1.job.sub = some .stopping then nearerHoldStop (closeCommand s1) else planCore s1

/-- A hold condition arrives (R5). -/
def raiseHold (r : HoldReason) (z : Option Zone) (w : HoldWay) (s : State) : State :=
  match s.job.state with
  | .run => enterHold .stopping r z w s
  | .hold => mergeHold r z w s
  | .unconfigured | .idle | .homing | .aborting | .fault | .trip => s

/-- A replan (R92): in RUN, each closed zone before which the head cannot stop raises a GUARD hold (R96). -/
def replan (s : State) : State :=
  let zones := if s.job.state = .run then replanUnstoppable s else []
  closeWatch (zones.foldl (fun t z => raiseHold .guard (some z) .atOnce t) (planCore s))

/-- The head stands at a stop, or there is none to reach. -/
def standing (s : State) (t : Option Stop) : Bool :=
  s.axis.speed == 0 && (match t with
    | some t => atHead s t
    | none => true)

/-- HOLD/STOPPING becomes HOLD/HELD at standstill with the jet CLOSED (R16). -/
def heldWhenStill (s : State) : State :=
  if s.job.state = .hold ∧ s.job.sub = some .stopping ∧ s.jetClosed ∧ standing s s.plan.holdStop then
    setState .hold (some .held) s
  else s

end Sys2Proof.Machine
end

