-- ==== Sys2Proof/Machine/Sequence.lean ====
section
/-! DEFINITION. Machine/Sequence.lean: pierce and kerf restart sequences (Sections 7.2 to 7.4): their record, their
stages one after another, and the jet reaching OPEN. A stage that waits for Z and for the pump is looked at again after
every event that can bring either report (`seqAdvance`). -/

namespace Sys2Proof.Machine

open Sys2Proof

/-- A sequence is a pierce when no contour record is present or the pierce is incomplete (R122). -/
def seqKindOf (j : Jet) : SeqKind := if j.contour.isNone || j.incomplete then .pierce else .restart

/-- The method of a sequence: of the opening entry, or the one the contour record keeps; a restart has none (R122). -/
def seqMethodOf (j : Jet) (e : QueueEntry) : Option PierceMethod :=
  match j.contour with
  | none => e.method
  | some c => if j.incomplete then c.method else none

/-- The sequence record for the entry about to be cut (R122): the first Recovery Path entry, with the executing entry's
dwell and moving-pierce speed, or the queue head. -/
def seqRecord (s : State) (e : QueueEntry) : SeqRecord :=
  let m := s.entryMaterial e
  let get (f : MaterialRec → Nat) : Nat := (m.map f).getD 0
  let base : SeqRecord :=
    { kind := seqKindOf s.jet, method := seqMethodOf s.jet e, entry := e.ref, pPierce := get MaterialRec.pPierce,
      pCut := get MaterialRec.pCut, dwell := get MaterialRec.dwell, creepSpeed := get MaterialRec.creepSpeed,
      rate := get MaterialRec.rate, timer := none }
  match s.queue.recPath with
  | [] => base
  | p :: _ => { base with entry := (p.seq, p.pidx), pPierce := p.pPierce, pCut := p.pCut, rate := p.rate }

/-- The first level of a sequence (Table 7-4). -/
def firstLevel (r : SeqRecord) : LevelReq :=
  if r.method = some .drilled then ⟨.cut, r.pCut⟩ else ⟨.pierce, r.pPierce⟩

/-- The stage timer takes a value. -/
def setStageTimer (t : Option StageTimer) (s : State) : State :=
  s.setJet { s.jet with seq := s.jet.seq.map (fun r => { r with timer := t }) }

/-- The pump is STEADY at a level. -/
def pumpStands (s : State) (l : Level) : Bool := s.pump.state == .steady && s.pump.current == l

/-! ## The jet reaches OPEN (R128) -/

/-- The jet enters OPEN: the sequence ends, the creep stretch is removed, the plan is made anew from standstill, and the
head moves on, or a deferred hold is taken (R14). -/
def jetOpen (s : State) : State :=
  let s1 := s.setJet { s.jet with
    state := .opened, incomplete := false, seq := none, cutEntry := s.jet.seq.map SeqRecord.entry }
  let s2 := dropCreep (pumpSequence false s1)
  if s2.job.deferred then enterHold .stopping .host none .along s2
  else replan (setState .run (some .moving) s2)

/-- RAMPING looked at: STEADY at CUT commands Z to CUT, and CUT confirmed with it opens the jet (R128). -/
def checkRamping (s : State) : State :=
  if pumpStands s .cut then
    let s1 := zCommand .cut s
    if s1.zAt .cut then jetOpen s1 else s1
  else s

/-- Entry to RAMPING asks for the CUT level (R128). -/
def enterJetRamping (s : State) : State :=
  let cut := (s.jet.seq.map SeqRecord.pCut).getD 0
  checkRamping (levelRequest ⟨.cut, cut⟩ (setStageTimer none (s.setJet { s.jet with state := .ramping })))

/-! ## The valve opens (R124) -/

/-- A planned stop at which a creep stretch from `head` may end (R91): any at or ahead of the head but the PIERCE or
RESTART stop at which it stands. One at the head lies at the end of an entry of length 0. -/
def endsCreep (head : Int) (t : Stop) : Bool :=
  decide (head < t.pos) || (t.pos == head && t.kind != .pierce && t.kind != .restart)

/-- The creep stretch of a MOVING pierce: floor(m × dwell / 60) µm from the head, or to a nearer planned stop (R91). -/
def layCreep (r : SeqRecord) (s : State) : State :=
  let head : Int := s.headPos
  let far : Int := head + ((r.creepSpeed * r.dwell / 60 : Nat) : Int)
  let stop :=
    match nextStop (s.plan.allStops.filter (endsCreep head)) head with
    | some q => min q far
    | none => far
  planCore (s.setPlan { s.plan with creep := some { limit := max 1 r.creepSpeed, stop := stop } })

/-- What every valve opening of a sequence does before the next stage (R121, R124): the contour record is made where
there is none, the pierce is incomplete from now on, the neighbours are told and the monitor is armed. -/
def valveOpens (r : SeqRecord) (s : State) : State :=
  let contour := s.jet.contour.or (some { start := 0, method := r.method })
  let s1 := s.setJet { s.jet with contour := contour, incomplete := s.jet.incomplete || r.kind == .pierce }
  let s2 := wearTold true (pumpValveOpen s1)
  if 0 < r.rate then armMonitor s2 else s2

/-- The valve opens: DWELL for a STATIONARY or MOVING pierce with a dwell above 0, RAMPING otherwise (R124 to R127). -/
def openValve (s : State) : State :=
  match s.jet.seq with
  | none => s
  | some r =>
    let s1 := valveOpens r s
    if r.kind = .pierce ∧ r.method = some .stationary ∧ 0 < r.dwell then
      setStageTimer (some (.dwell r.dwell)) (s1.setJet { s1.jet with state := .dwell })
    else if r.kind = .pierce ∧ r.method = some .moving ∧ 0 < r.dwell then
      layCreep r (setStageTimer none (s1.setJet { s1.jet with state := .dwell }))
    else enterJetRamping s1

/-! ## PREPARING and FEEDING (R123, R124) -/

/-- PREPARING ends: FEEDING with its lead time when the rate is above 0, else the valve opens at once. -/
def endPreparing (s : State) : State :=
  if 0 < (s.jet.seq.map SeqRecord.rate).getD 0 then
    let s1 := s.setJet { s.jet with state := .feeding }
    if s1.cfg.abrasiveLead = 0 then openValve (setStageTimer none s1)
    else setStageTimer (some (.lead s1.cfg.abrasiveLead)) s1
  else openValve (setStageTimer none s)

/-- PREPARING looked at (R123): both reports start the settle timer, and Z lost again stops it. -/
def checkPreparing (s : State) : State :=
  match s.jet.seq with
  | none => s
  | some r =>
    if s.zAt .pierce then
      if pumpStands s (firstLevel r).level && r.timer.isNone then
        if s.cfg.settleTime = 0 then endPreparing s else setStageTimer (some (.settle s.cfg.settleTime)) s
      else s
    else setStageTimer none s

/-- Entry to PREPARING: Z to PIERCE and the first level asked for (R123). -/
def enterPreparing (s : State) : State :=
  match s.jet.seq with
  | none => s
  | some r =>
    let s1 := pumpSequence true (s.setJet { s.jet with state := .preparing, rate := r.rate })
    checkPreparing (levelRequest (firstLevel r) (zCommand .pierce s1))

/-- The sequence goes on by whatever reports stand. -/
def seqAdvance (s : State) : State :=
  match s.jet.state with
  | .preparing => checkPreparing s
  | .ramping => checkRamping s
  | .closed | .feeding | .dwell | .opened | .closing => s

/-- A sequence is begun for the executing entry (R122); one begun while the jet is CLOSING waits. -/
def beginSequence (s : State) : State :=
  match s.queueHead with
  | none => s
  | some e =>
    let s1 := s.setJet { s.jet with seq := some (seqRecord s e) }
    if s.jet.state = .closed then enterPreparing s1 else s1

end Sys2Proof.Machine
end

