-- ==== Sys2Proof/Machine/Motion.lean ====
section
/-! DEFINITION. Machine/Motion.lean: where the head is when it may go on, and what follows: the substate and the sequence
of a begin or its withholding (R17 to R19, R39, R161, R162), the recovery that a Resume begins (R137, R138), the ends of
RUN and ABORTING (R12, R43), and what one interpolation period does along the path (R103 to R106) and arriving at its
stops (R100). -/

namespace Sys2Proof.Machine

open Sys2Proof

/-! ## Going on from standstill -/

/-- What the head would do next from where it stands. -/
inductive Need
  | nothing
  | atEnd
  | backtrack
  | sequence
  | move
deriving DecidableEq, Repr

/-- What the head would do next, by where it stands (Table 1-7, R18, R19, R39). DESIGN CHOICE (log entry 52): a head
that stands with the jet not OPEN before a cutting entry of length 0, last before a JET_OFF or END stop, begins a kerf
restart for it (R122). -/
def needOf (s : State) : Need :=
  match s.queue.recPath with
  | _ :: _ => if s.queue.recBack then .backtrack else if s.jet.state = .opened then .move else .sequence
  | [] =>
    match s.plan.legs with
    | [] => .nothing
    | l :: _ =>
      if l.isEnd then .atEnd
      else if l.cutting && s.jet.state != .opened then .sequence
      else .move

/-- The approach from where the head stands, or will come to stand, to the start of the first entry, when that is
another point (R31). A cutting entry that goes on with the contour whose record is present is begun where the head
stands (log entry 22). -/
def approachFor (s : State) : Option Shape :=
  match s.queueHead with
  | none => none
  | some e =>
    if e.kind.cutting && !e.opens && s.jet.contour.isSome then none
    else match e.shape with
      | none => none
      | some sh =>
        let here := restPosition s
        if here = sh.start ∧ s.atRest then none else some (straightShape here sh.start)

/-- The head is to begin the first entry: an approach is placed where it calls for one (R31). -/
def placeApproach (s : State) : State :=
  if s.queue.recPath.isEmpty && s.axis.pathPos == 0 then
    s.setPlan { s.plan with approach := approachFor s }
  else s

/-- The zones of the ZONE stops inside a contour at the head's position. -/
def zonesInside (s : State) : List Zone :=
  (s.plan.stops.filter (fun t => t.kind == .zone && t.inside && atHead s t)).filterMap Stop.zone

/-- A begin that R162 withholds: the zones that hold it back, and whether the head waits for them in ZONE_WAIT or a
GUARD hold is raised for each. -/
structure Withheld where
  zones : List Zone
  waits : Bool
deriving DecidableEq, Repr

/-- The head stands at a ZONE stop inside the contour, at the end of a leg of length 0 that it has not completed: what
R97 calls for there comes before the leg (log entry 12). -/
def zoneBehindZeroLeg (s : State) (l : Leg) (z : Zone) : Bool :=
  l.len == 0 && s.jet.contour.isSome && (zonesInside s).contains z

/-- The closed zones that what comes next touches (R162): the Recovery Path's entries, the first leg when it has not
begun, else the point of a restart inside an entry already begun. -/
def withheldBy (s : State) (n : Need) : Withheld :=
  match s.queue.recPath with
  | p :: ps =>
    { zones := s.closedList.filter (fun z => (p :: ps).any (fun p => touches s.cfg (xExtentPartial p.shape) z))
      waits := false }
  | [] =>
    match s.plan.legs with
    | [] => { zones := [], waits := false }
    | l :: _ =>
      if s.axis.pathPos = 0 then
        { zones := s.closedList.filter (fun z => l.touches s.cfg z || zoneBehindZeroLeg s l z)
          waits := !(l.cutting && (!l.opens || s.jet.contour.isSome)) }
      else if n = .sequence then
        { zones := s.closedList.filter (pointTouches s.cfg s.axis.setPoint), waits := false }
      else { zones := [], waits := false }

/-- The head is at a point from which the path goes on with a TRAVERSE or the approach: Z is commanded CLEAR (R108). -/
def clearForTraverse (s : State) : State :=
  match s.plan.legs with
  | l :: _ => if l.isTraverse && s.axis.pathPos == 0 && s.axis.speed == 0 then zCommand .clear s else s
  | [] => s

/-- The substate of RUN for what comes next. -/
def needSubstate : Need → Substate
  | .nothing => .starved
  | .atEnd => .moving
  | .backtrack => .backtrack
  | .sequence => .piercing
  | .move => .moving

/-- The head goes on: the substate is set, and a sequence begun where one is called for (R122). DESIGN CHOICE (log entry
37): RUN entered with an END first takes the substate MOVING until the END retires. -/
def beginNeed (n : Need) (s : State) : State :=
  match n with
  | .nothing => setState .run (some .starved) s
  | .atEnd => if s.job.state = .run then s else setState .run (some .moving) s
  | .backtrack => setState .run (some .backtrack) s
  | .sequence => beginSequence (planCore (setState .run (some .piercing) s))
  | .move => clearForTraverse (setState .run (some .moving) s)

/-- The head, at standstill with its plan made, begins what comes next, or the begin is withheld (R162). DESIGN CHOICE
(log entry 38): where both zones call for a GUARD condition, zone A's is raised first. -/
def proceed (s : State) : State :=
  let n := needOf s
  let w := withheldBy s n
  if w.zones = [] then beginNeed n s
  else if w.waits then clearForTraverse (setState .run (some .zoneWait) s)
  else
    let s1 := if s.job.state = .run then s else setState .run (some (needSubstate n)) s
    w.zones.foldl (fun t z => raiseHold .guard (some z) .here t) s1

/-! ## Recovery (R137, R138) -/

/-- The restart point: the greatest of the four terms, and whether any of the last three exceeds the first (R138). -/
def restartPoint (lastPulse overlap sStop limit floor : Nat) : Nat × Bool :=
  let t1 : Int := (lastPulse : Int) - overlap
  let t2 : Int := (sStop : Int) - limit
  ((max (max t1 t2) (max 0 (floor : Int))).toNat, decide (t1 < t2) || decide (t1 < 0) || decide (t1 < (floor : Int)))

/-- The RECOVERY report (R141). -/
def recoveryReport (s : State) (sStop sR : Nat) (short : Bool) : Report :=
  .recovery (s.queueHead.map (fun e => (e.seq, e.pidx))) sStop sR (sStop - sR) (s.jet.lastPulse.getD 0) short

/-- The recovery that a Resume with reason ABRASIVE begins (R137). A Recovery Path already present is replaced when a
new one is built (R48). -/
def recoveryStart (s : State) : State :=
  let sStop := (contourDistance s).getD 0
  match s.queueHead with
  | some e =>
    if e.kind.cutting then
      let (sR, short) :=
        restartPoint (s.jet.lastPulse.getD 0) s.cfg.overlap sStop s.cfg.backtrackLimit (contourFloor s e)
      let s1 := s.setJet { s.jet with recovery := some { isPending := true, sStop := sStop, sR := sR, short := short } }
      let s2 :=
        if sR < sStop then
          ((s1.setQueue { s1.queue with recPath := recoveryPath s1 e (entryLimit s1 e) sR sStop, recBack := true }).setAxis
            { s1.axis with pathPos := 0 }).setPlan { s1.plan with stops := [], transition := none }
        else s1
      post (recoveryReport s sStop sR short) s2
    else
      post (recoveryReport s sStop sStop true)
        (s.setJet { s.jet with recovery := some { isPending := false, sStop := sStop, sR := sStop, short := true } })
  | none =>
    post (recoveryReport s sStop sStop true)
      (s.setJet { s.jet with recovery := some { isPending := false, sStop := sStop, sR := sStop, short := true } })

/-- The recovery record is pending (R140). -/
def State.recovering (s : State) : Bool := (s.jet.recovery.map RecoveryRec.isPending).getD false

/-- The recovery record is cleared. -/
def clearRecovery (s : State) : State := s.setJet { s.jet with recovery := none }

/-- The head, cutting forward with the jet OPEN, has passed beyond s_stop: the record is cleared (R140). -/
def recoveryPassed (s : State) : State :=
  match s.jet.recovery, s.jet.contour with
  | some r, some c =>
    if s.jet.state = .opened ∧ s.queue.recPath = [] ∧ s.plan.approach = none ∧ r.isPending
        ∧ 60 * r.sStop < 60 * c.start + s.axis.pathPos then clearRecovery s else s
  | _, _ => s

/-- A stop of one of some kinds stands at the head's position. -/
def stopsHere (s : State) (k : StopKind → Bool) : Bool := s.plan.stops.any (fun t => atHead s t && k t.kind)

/-- The head has a cutting entry of length 0 before it, so that a stop at its position may be the one at its end. -/
def State.zeroCutAhead (s : State) : Bool := s.plan.legs.head?.any (fun l => l.cutting && l.len == 0)

/-- The recovery record is cleared when the jet closes at a JET_OFF or END stop that lies at s_stop (R140). DEDUCED (log
entry 47): the head stands at the stop with the jet CLOSING or CLOSED, and no entry of length 0 is left to be cut. -/
def recoveryAtStop (s : State) : State :=
  match s.jet.recovery with
  | some r =>
    if r.isPending ∧ (s.jet.state = .closing ∨ s.jet.state = .closed) ∧ contourDistance s = some r.sStop
        ∧ s.zeroCutAhead = false ∧ stopsHere s (fun k => k == .jetOff || k == .segEnd) = true then
      clearRecovery s
    else s
  | none => s

/-- In HOLD the same, while it is STOPPING (R140; log entry 47). -/
def recoveryInHold (s : State) : State := if s.job.sub = some .stopping then recoveryAtStop s else s

/-- The valve switch has reported the jet closed: in RUN, with the head at standstill, the same (R140; log entry 47). -/
def recoveryAtSwitch (s : State) : State :=
  if s.job.state = .run ∧ s.axis.speed = 0 ∧ s.axis.stopRun = none then recoveryAtStop s else s

/-- The contour record is discarded (R130). DEDUCED (log entry 47): a recovery still pending ends with the contour in
which its s_stop lies. -/
def endContour (s : State) : State :=
  s.setJet { s.jet with contour := none, recovery := s.jet.recovery.filter (fun r => !r.isPending) }

/-! ## The ends of RUN and ABORTING -/

/-- The END at the queue head retires: RUN ends in IDLE and Z is commanded CLEAR (R19, R43, R108). -/
def retireEnd (e : QueueEntry) (s : State) : State :=
  let s2 := endContour (retireEntry e 0 none s)
  zCommand .clear (planCore ((setState .idle none s2).setPlan { s2.plan with stops := [] }))

/-- The head stands at the END at the queue head. -/
def State.standsAtEnd (s : State) : Bool :=
  s.axis.speed == 0 && s.axis.pathPos == 0 && s.plan.approach.isNone && s.queue.recPath.isEmpty

/-- What RUN does at standstill with the jet CLOSED: an END at the queue head retires, and the end of the queued path
makes RUN/MOVING into RUN/STARVED (R19, R43). -/
def runSettle (s : State) : State :=
  match s.queueHead with
  | some e => if e.kind = .segEnd ∧ s.standsAtEnd then retireEnd e s else s
  | none => if s.job.sub = some .moving ∧ s.axis.speed = 0 then setState .run (some .starved) s else s

/-- The end of ABORTING at standstill with the jet CLOSED (R12). -/
def abortSettle (s : State) : State :=
  if s.axis.homing.isNone && s.axis.stopRun.isNone && s.axis.speed == 0 && s.plan.stops.all (atHead s) then
    zCommand .clear (setState .idle none (clearJetRecords (flush s)))
  else s

/-- What HOLD does with the jet CLOSED: at standstill a recovery that ends there ends (R140), and STOPPING becomes HELD
(R16). -/
def holdSettle (s : State) : State :=
  heldWhenStill (if s.axis.speed = 0 ∧ s.axis.stopRun = none then recoveryInHold s else s)

/-- The transitions that wait for standstill and for the jet to be CLOSED (R12, R16, R19, R43). -/
def settle (s : State) : State :=
  if s.jetClosed then
    match s.job.state with
    | .hold => holdSettle s
    | .aborting => abortSettle s
    | .run => runSettle s
    | .unconfigured | .idle | .homing | .fault | .trip => s
  else s

/-! ## One period along the plan path (R103) -/

/-- Sixtieths of a µm from the path position to the nearest planned stop ahead, to a junction of limit 0, or to the end
of the path. -/
def distanceAhead (c : ConfigRec) (p : Plan) (pathPos : Nat) : Nat :=
  leastOf (60 * pathLength p.legs - pathPos)
    ((p.allStops.filter (fun t => decide ((pathPos : Int) ≤ 60 * t.pos))).map
        (fun t => (60 * t.pos - (pathPos : Int)).toNat)
     ++ ((p.junctions c).filter (fun j => j.2.1 == 0 && decide ((pathPos : Int) < 60 * j.1))).map
        (fun j => (60 * j.1 - (pathPos : Int)).toNat))

/-- The head stands on a junction of limit 0: one it has just left behind, or one of the backtrack, whose legs stay. -/
def onZeroJunction (c : ConfigRec) (p : Plan) (pathPos : Nat) : Bool :=
  p.anchors.any (fun a => 60 * a.pos == (pathPos : Int) && a.speed == 0)
  || (p.junctions c).any (fun j => 60 * j.1 == (pathPos : Int) && j.2.1 == 0)

/-- The step of a period (R103). A head that has just reached a junction of limit 0 stands still for one period (R87;
log entry 12). DESIGN CHOICE (log entry 44): where the planned speeds on both sides are 0 and the next standstill lies 1
µm ahead or less, that rest is one step. -/
def pathStep (c : ConfigRec) (p : Plan) (pathPos speed : Nat) : Nat :=
  let x : Int := (pathPos / 60 : Nat)
  let ahead := distanceAhead c p pathPos
  let v := max (planSpeed c p x) (planSpeed c p (x + 1))
  if 0 < speed ∧ onZeroJunction c p pathPos then 0
  else if v = 0 ∧ ahead ≤ 60 then ahead
  else min v ahead

/-- A TRAVERSE or the approach is entered from standstill only with CLEAR confirmed (R108). -/
def mayStep (s : State) : Bool :=
  match s.plan.legs with
  | [] => false
  | l :: _ => !(l.isTraverse && s.axis.pathPos == 0 && s.axis.speed == 0) || s.zAt .clear

/-- Every position of the plan moved by `d`. -/
def shiftPlan (d : Int) (p : Plan) : Plan :=
  let move (t : Stop) : Stop := { t with pos := t.pos + d }
  { p with
    stops := p.stops.map move
    holdStop := p.holdStop.map move
    transition := p.transition.map (fun t => { t with pos := t.pos + d })
    creep := p.creep.map (fun k => { k with stop := k.stop + d })
    closePoint := p.closePoint.map (· + d)
    anchors := p.anchors.map (fun a => { a with pos := a.pos + d }) }

/-- The contour record is discarded when the head begins a TRAVERSE or an approach (R130). -/
def beginTraverse (l : Leg) (s : State) : State :=
  if l.isTraverse then endContour s else s

/-- A leg of the Recovery Path leaves the list (R48). When the last one has left, the executing entry goes on from its
progress, and its leg counts from its own start again. -/
def leaveRecovery (s : State) : State :=
  let rest := s.queue.recPath.tail
  let s1 := s.setQueue { s.queue with recPath := rest }
  if rest.isEmpty then
    match s1.plan.legs with
    | [] => s1
    | l :: ls =>
      let p := shiftPlan (l.base : Int) s1.plan
      (s1.setPlan { p with legs := { l with base := 0, len := l.len + l.base } :: ls }).setAxis
        { s1.axis with pathPos := s1.axis.pathPos + 60 * l.base }
  else s1

/-- The head has reached the end of the first leg moving forward (R42, R48, R105): the set-point is its end exactly, the
leg leaves the plan path with a transition point that lies on it, and what it stood for retires or leaves. Up to a
transition point the limit the planner applied is the former one, and so is that of the junction (R82, R93). -/
def finishLeg (l : Leg) (s : State) : State :=
  let former := upTo s.plan.transition l.len
  let p := shiftPlan (-(l.len : Int)) s.plan
  let s1 := (s.setPlan { p with
      legs := s.plan.legs.tail, transition := p.transition.filter (fun t => decide (0 < t.pos))
      anchors := { pos := 0, speed := if former then l.formerJunction else l.junction } :: p.anchors }).setAxis
    { s.axis with pathPos := s.axis.pathPos - 60 * l.len
                  setPoint := (l.pointAt l.len).getD s.axis.setPoint }
  match l.kind with
  | .approach => s1.setPlan { s1.plan with approach := none }
  | .entry => retireHead (if former then l.former else l.limit) s1
  | .recut => leaveRecovery s1
  | .backtrack => s1

/-- A step that crosses the end of one entry goes on into the next (R103); at most `n` legs are left behind. -/
def crossLegs : Nat → State → State
  | 0, s => s
  | n + 1, s =>
    match s.plan.legs with
    | [] => s
    | l :: _ =>
      if 0 < l.len ∧ 60 * l.len ≤ s.axis.pathPos ∧ l.kind ≠ .backtrack then crossLegs n (finishLeg l s) else s

/-- The progress at the present path position (R41). -/
def takeProgress (s : State) : State :=
  match s.plan.legs with
  | [] => s
  | l :: _ => if l.kind = .entry then s.setQueue { s.queue with progress := l.base + s.headPos } else s

/-- The set-points at the present path position (R105, R106). At the very end of an entry they are those that
`finishLeg` gave. -/
def placeHead (s : State) : State :=
  match s.plan.legs with
  | [] => s
  | l :: _ =>
    if s.axis.pathPos = 0 then s
    else s.setAxis { s.axis with setPoint := (l.pointAt s.headPos).getD s.axis.setPoint }

/-- A stop at the head's position asks for something else before the leg there is begun: a restart, or a wait for a
closed zone that the leg touches. A ZONE stop for a later leg, at the end of one of length 0, does not. -/
def heldBefore (s : State) (l : Leg) (t : Stop) : Bool :=
  atHead s t && (t.kind == .restart || (t.kind == .zone && t.zone.any (l.touches s.cfg)))

/-- A head at standstill may begin the entry before it: in RUN while it moves or creeps, unless a restart is asked for
or the entry touches a zone that is closed there, and in HOLD and ABORTING short of the stop it is to rest at. -/
def mayBegin (s : State) (l : Leg) : Bool :=
  match s.job.state with
  | .run =>
    (s.inRun .moving || (s.inRun .piercing && s.plan.creep.isSome && s.jet.state == .dwell))
      && !(s.plan.allStops.any (heldBefore s l))
  | .hold | .aborting => !(s.plan.allStops.any (atHead s))
  | .unconfigured | .idle | .homing | .fault | .trip => false

/-- An entry of length 0 at the head is completed in the period in which the head begins it (R105; log entry 12). -/
def zeroLeg (s : State) : Option Leg :=
  match s.plan.legs with
  | [] => none
  | l :: _ =>
    if l.len = 0 && !l.isEnd && l.kind != .backtrack && s.axis.speed == 0 && mayBegin s l
        && (l.isTraverse || s.jet.contour.isSome) then some l
    else none

/-- The set-points of a period in which the head has reached no entry's end: on the backtrack, whose legs stay until it
is done, and forward. -/
def pathPoint (s : State) : State :=
  if s.queue.recBack then
    if s.axis.pathPos = 0 then s
    else s.setAxis { s.axis with setPoint := pointOnPath s.axis.setPoint s.plan.legs s.headPos }
  else placeHead s

/-- The step of a period taken (R103 to R106): the entries whose ends it reaches retire or leave, and in that period the
set-point is the last of those ends exactly. -/
def takeStep (s : State) : State :=
  let s1 := crossLegs s.plan.legs.length s
  takeProgress (if s1.plan.legs.length < s.plan.legs.length then s1 else pathPoint s1)

/-- The motion of one period along the plan path. -/
def pathPeriod (s : State) : State :=
  if mayStep s then
    match zeroLeg s with
    | some l => finishLeg l (beginTraverse l s)
    | none =>
      let step := pathStep s.cfg s.plan s.axis.pathPos s.axis.speed
      let s1 := s.setAxis { s.axis with pathPos := s.axis.pathPos + step, speed := step }
      if step = 0 then pathPoint s1
      else
        let s2 :=
          match s1.plan.legs with
          | l :: _ => beginTraverse l s1
          | [] => s1
        recoveryPassed (takeStep s2)
  else s.setAxis { s.axis with speed := 0 }

/-! ## Arrival (R100) -/

/-- The stops after which the head is to go on: JET_OFF, PIERCE, ZONE and RESTART. -/
def StopKind.goesOn : StopKind → Bool
  | .jetOff => true
  | .pierce => true
  | .zone => true
  | .restart => true
  | .queueEnd => false
  | .segEnd => false
  | .hold => false
  | .creep => false
  | .abort => false

/-- The stops at the head's position become committed (R88). -/
def commitHere (s : State) : State :=
  let mark (t : Stop) : Stop := if atHead s t then { t with committed := true } else t
  s.setPlan { s.plan with stops := s.plan.stops.map mark }

/-- The backtrack has come to s_r (R98): from here the head goes forward. -/
def backtrackDone (s : State) : State :=
  planCore (((s.setQueue { s.queue with recBack := false }).setAxis { s.axis with pathPos := 0 }).setPlan
    { s.plan with stops := [] })

/-- Arrival in RUN/MOVING. An END at the head's position is left to `settle` and comes before a ZONE stop there (log
entry 14). A head that stands before a TRAVERSE with no stop there, one appended while it waited, is sent CLEAR (R108).
DESIGN CHOICE (log entry 56): a ZONE stop placed at a head that stands already is arrived at in the next period. -/
def arriveMoving (s : State) : State :=
  match s.plan.legs with
  | [] => s
  | l :: _ =>
    if l.isEnd then s else if stopsHere s StopKind.goesOn then proceed (planCore s) else clearForTraverse s

/-- Arrival at ZONE stops inside a contour: a GUARD condition for each zone, for which the stop becomes the hold stop
(R97; log entry 38). -/
def arriveInside (s : State) : State := (zonesInside s).foldl (fun t z => raiseHold .guard (some z) .here t) s

/-- Arrival in HOLD at a planned stop short of the hold stop: a ZONE stop inside a contour raises its GUARD condition
(R97). DEDUCED (log entry 54): at another stop, one whose zone has opened again (R161) among them, the hold stop takes
its position, so that the head is HELD there (R16) and a kerf restart follows the Resume. -/
def arriveHolding (s : State) : State :=
  if standing s s.plan.holdStop then s
  else if zonesInside s ≠ [] then arriveInside s
  else if s.plan.stops.any (atHead s) then closeWatch (holdHere s)
  else s

/-- Arrival in RUN/PIERCING: at a ZONE stop inside a contour (R97), and at the CREEP stop, which ends the dwell (R126).
An entry of length 0 that the stretch still crosses retires first (log entry 12). DESIGN CHOICE (log entry 48): where
both stand at one position the ZONE stop alone is acted on. -/
def arrivePiercing (s : State) : State :=
  if zonesInside s ≠ [] then arriveInside s
  else if stopsHere s (· == .creep) ∧ s.jet.state = .dwell ∧ (zeroLeg s).any Leg.cutting = false then enterJetRamping s
  else s

/-- Arrival at the stops at the head's position (R97, R98, R100). -/
def arrive (s : State) : State :=
  if s.axis.speed = 0 ∧ s.axis.stopRun = none then
    match s.job.state with
    | .run =>
      let s1 := recoveryAtStop (commitHere s)
      match s.job.sub with
      | some .moving => arriveMoving s1
      | some .backtrack => if stopsHere s1 (· == .restart) then proceed (backtrackDone s1) else s1
      | some .piercing => arrivePiercing s1
      | _ => s1
    | .hold =>
      let s1 := commitHere s
      arriveHolding (recoveryInHold s1)
    | _ => s
  else s

end Sys2Proof.Machine
end

