-- ==== Sys2Proof/Machine/Axis.lean ====
section
/-! DEFINITION. Machine/Axis.lean: the Axis Interface's own work (Chapter 6): the run to a stop point (R110), the
following-error monitoring (R112, R113), the drive-ready checks (R114), the reference run (R115 to R117), and the whole
of one interpolation period (R103). -/

namespace Sys2Proof.Machine

open Sys2Proof

/-! ## The run to a stop point (R110) -/

/-- The speed at `x` on the way to a stop point: its backward bound, never above the speed at which the head moved. -/
def stopRunSpeed (r : StopRun) (x : Nat) : Nat := min r.vmax (bound 0 r.decel (r.at_ - x))

/-- The step of a period toward a stop point. -/
def stopRunStep (r : StopRun) : Nat :=
  min (max (stopRunSpeed r (r.pos60 / 60)) (stopRunSpeed r (r.pos60 / 60 + 1))) (60 * r.at_ - r.pos60)

/-- The head stands still after an order of R110: in a configured state other than TRIP, Z is commanded CLEAR (R108). -/
def clearAfterStop (s : State) : State :=
  if s.configured && s.job.state != .trip then zCommand .clear s else s

/-- One period toward a stop point; at standstill it is removed. -/
def stopRunPeriod (r : StopRun) (s : State) : State :=
  let step := stopRunStep r
  if step = 0 then
    clearAfterStop (s.setAxis { s.axis with
      stopRun := none, speed := 0, setPoint := runPoint s.axis.setPoint r.legs (r.pos60 - 1) r.pos60 })
  else
    let q := r.pos60 + step
    s.setAxis { s.axis with
      stopRun := some { r with pos60 := q }, speed := step, setPoint := runPoint s.axis.setPoint r.legs r.pos60 q }

/-! ## Following error (R112, R113) -/

/-- The following error of one axis. -/
def followError (setPoint actual : Int) : Nat := (setPoint - actual).natAbs

/-- The FOLLOWING detail of a period, if a check is met (R113). -/
def followDetail (c : ConfigRec) (a : Axis) (count : Nat) : Option Nat :=
  let ex := followError a.setPoint.x a.actual.x
  let ey := followError a.setPoint.y a.actual.y
  if decide (c.faultLimit < ex) && !a.beyondX then some 1
  else if decide (c.faultLimit < ey) && !a.beyondY then some 2
  else if (decide (c.warnLimit < ex) || decide (c.warnLimit < ey)) && decide (c.excursionThreshold ≤ count)
      && !a.threshold then
    some (if c.warnLimit < ex then 17 else 18)
  else none

/-- The monitoring of a period while a Configure record is in force (R112, R113). -/
def followCheck (s : State) : State :=
  if s.configured then
    let c := s.cfg
    let ex := followError s.axis.setPoint.x s.axis.actual.x
    let ey := followError s.axis.setPoint.y s.axis.actual.y
    let excursion := decide (c.warnLimit < ex) || decide (c.warnLimit < ey)
    let count := if excursion then satAdd 65535 s.axis.excursions 1 else s.axis.excursions
    let detail := followDetail c s.axis count
    let s1 := s.setAxis { s.axis with
      excursions := count
      threshold := s.axis.threshold || (excursion && decide (c.excursionThreshold ≤ count))
      beyondX := decide (c.faultLimit < ex), beyondY := decide (c.faultLimit < ey) }
    match detail with
    | some d => raiseFault .following d s1
    | none => s1
  else s

/-! ## Drive readiness (R114) -/

/-- The number of an axis in a DRIVE detail (Table 1-5). -/
def axisNumber : AxisName → Nat
  | .x => 1
  | .y => 2
  | .z => 3

/-- The first inactive drive-ready input in the order X, Y, Z. -/
def firstNotReady (l : Lines) : Option AxisName :=
  if !l.readyX then some .x else if !l.readyY then some .y else if !l.readyZ then some .z else none

/-- A configured state is entered: an inactive drive-ready input raises the DRIVE fault (R114). -/
def driveCheck (s : State) : State :=
  if s.configured then
    match firstNotReady s.lines with
    | some a => raiseFault .drive (axisNumber a) s
    | none => s
  else s

/-! ## The reference run (R115 to R117) -/

/-- The speed at which the axes seek and return, mm/min. -/
def homingSpeed : Nat := 1000

/-- The speed of an axis on its line at `x` µm. -/
def lineSpeed (r : LineRun) (x : Nat) : Nat :=
  leastOf r.vmax (bound r.v0 r.acc x :: (match r.len with
    | some l => [bound 0 r.acc (l - x)]
    | none => []))

/-- The step of an axis on its line in one period. DESIGN CHOICE (log entry 44): an axis that stands 1 µm or less from
its end, where both planned speeds are 0, takes that rest in one step. -/
def lineStep (r : LineRun) : Nat :=
  let v := max (lineSpeed r (r.pos60 / 60)) (lineSpeed r (r.pos60 / 60 + 1))
  match r.len with
  | some l => if v = 0 ∧ 60 * l - r.pos60 ≤ 60 then 60 * l - r.pos60 else min v (60 * l - r.pos60)
  | none => v

/-- An axis after one step on its line. -/
def lineMove (r : LineRun) : LineRun :=
  let step := lineStep r
  { r with pos60 := r.pos60 + step, speed := step }

/-- The set-point of an axis on its line. -/
def linePoint (r : LineRun) : Int := r.start + r.dir * ((r.pos60 / 60 : Nat) : Int)

/-- One axis in a period of a reference run: its homing, its set-point, and the amount its offset changes by. -/
structure AxisStep where
  homing : AxisHoming
  setPoint : Int
  shift : Int
deriving DecidableEq, Repr

/-- An axis begins to seek from standstill, in the negative direction (R115). -/
def seekFrom (a : Nat) (setPoint : Int) : AxisHoming :=
  { phase := .seeking
    run := some { start := setPoint, dir := -1, pos60 := 0, speed := 0, len := none, v0 := 0, vmax := homingSpeed,
                  acc := a } }

/-- An axis that stands past its switch comes back to its home coordinate; when it stands there already it is HOME. -/
def returnFrom (a : Nat) (home setPoint : Int) : AxisHoming :=
  if setPoint = home then { phase := .home, run := none }
  else
    { phase := .returningBack
      run := some { start := setPoint, dir := if setPoint < home then 1 else -1, pos60 := 0, speed := 0,
                    len := some (home - setPoint).natAbs, v0 := 0, vmax := homingSpeed, acc := a } }

/-- The latch of a seeking axis (R116): the offset and the set-point change by what makes the actual position read as
the home coordinate, and the axis decelerates on. -/
def latchAxis (a : Nat) (home setPoint actual : Int) (r : Option LineRun) : AxisStep :=
  let shift := home - actual
  let sp := setPoint + shift
  let speed := (r.map LineRun.speed).getD 0
  let stop : AxisHoming :=
    if speed = 0 then returnFrom a home sp
    else
      { phase := .returningStop
        run := some { start := sp, dir := -1, pos60 := (r.map LineRun.pos60).getD 0 % 60, speed := speed,
                      len := some (stopDist speed a), v0 := speed, vmax := speed, acc := a } }
  { homing := stop, setPoint := sp, shift := shift }

/-- One axis of a reference run that has been ended, or that still moved when this one began: it comes to rest on its
line (R117). -/
def endAxis (setPoint : Int) (h : AxisHoming) : AxisStep :=
  match h.run with
  | none => { homing := h, setPoint := setPoint, shift := 0 }
  | some r =>
    if lineStep r = 0 then { homing := { h with run := none }, setPoint := setPoint, shift := 0 }
    else { homing := { h with run := some (lineMove r) }, setPoint := linePoint (lineMove r), shift := 0 }

/-- The motion of an axis in a period, its phase fixed. -/
def lineAxis (a : Nat) (home setPoint : Int) (h : AxisHoming) : AxisStep :=
  match h.phase, h.run with
  | .returningStop, some r =>
    if lineStep r = 0 then { homing := returnFrom a home setPoint, setPoint := setPoint, shift := 0 }
    else { homing := { h with run := some (lineMove r) }, setPoint := linePoint (lineMove r), shift := 0 }
  | .returningBack, some r =>
    if lineStep r = 0 then { homing := { phase := .home, run := none }, setPoint := setPoint, shift := 0 }
    else { homing := { h with run := some (lineMove r) }, setPoint := linePoint (lineMove r), shift := 0 }
  | .seeking, some r =>
    { homing := { h with run := some (lineMove r) }, setPoint := linePoint (lineMove r), shift := 0 }
  | .raising, _ => endAxis setPoint h
  | _, _ => { homing := h, setPoint := setPoint, shift := 0 }

/-- One axis in a period of a reference run (R115, R116). -/
def homeAxis (a : Nat) (home setPoint actual : Int) (switch : Bool) (h : AxisHoming) : AxisStep :=
  if h.phase = .seeking && switch then
    let l := latchAxis a home setPoint actual h.run
    let m := lineAxis a home l.setPoint l.homing
    { m with shift := l.shift }
  else lineAxis a home setPoint h

/-- The speed of an axis of a reference run. -/
def AxisHoming.speed (h : AxisHoming) : Nat := (h.run.map LineRun.speed).getD 0

/-- What one period of a reference run leaves on the axes. DESIGN CHOICE (log entry 41): the present speed is the
greater of the two axes' steps. -/
def putHoming (h : Homing) (x y : AxisStep) (s : State) : State :=
  s.setAxis { s.axis with
    homing := some { h with x := x.homing, y := y.homing }
    setPoint := ⟨x.setPoint, y.setPoint⟩
    offset := ⟨s.axis.offset.x + x.shift, s.axis.offset.y + y.shift⟩
    actual := ⟨s.axis.actual.x + x.shift, s.axis.actual.y + y.shift⟩
    speed := max x.homing.speed y.homing.speed }

/-- Both axes are HOME: the reference run has succeeded (R116, R20). The plan is made from the head's position. -/
def homingSuccess (s : State) : State :=
  match s.axis.homing with
  | some h =>
    if h.x.phase = .home ∧ h.y.phase = .home ∧ h.ending = false then
      let s1 := s.setAxis { s.axis with homing := none, speed := 0 }
      planCore (setState .idle none (s1.setJob { s1.job with referenced := true }))
    else s
  | none => s

/-- X and Y enter SEEKING from standstill once CLEAR is confirmed (R115); an axis whose switch is already active latches
at once. -/
def homingSeek (s : State) : State :=
  match s.axis.homing with
  | some h =>
    if s.zAt .clear ∧ h.x.phase = .raising ∧ h.ending = false ∧ s.axis.stopRun = none ∧ h.x.run = none
        ∧ h.y.run = none then
      let a := s.cfg.aTraverse
      let seek (home setPoint actual : Int) (switch : Bool) : AxisStep :=
        if switch then latchAxis a home setPoint actual none
        else { homing := seekFrom a setPoint, setPoint := setPoint, shift := 0 }
      homingSuccess (putHoming h (seek s.cfg.homeX s.axis.setPoint.x s.axis.actual.x s.lines.homeX)
        (seek s.cfg.homeY s.axis.setPoint.y s.axis.actual.y s.lines.homeY) s)
    else s
  | none => s

/-- One period of a reference run. -/
def homingPeriod (h : Homing) (s : State) : State :=
  let a := s.cfg.aTraverse
  if h.ending then
    let x := endAxis s.axis.setPoint.x h.x
    let y := endAxis s.axis.setPoint.y h.y
    if x.homing.run.isNone && y.homing.run.isNone then
      clearAfterStop ((putHoming h x y s).setAxis { (putHoming h x y s).axis with homing := none, speed := 0 })
    else putHoming h x y s
  else
    homingSeek (homingSuccess (putHoming h
      (homeAxis a s.cfg.homeX s.axis.setPoint.x s.axis.actual.x s.lines.homeX h.x)
      (homeAxis a s.cfg.homeY s.axis.setPoint.y s.axis.actual.y s.lines.homeY h.y) s))

/-- An axis has latched. -/
def AxisHoming.latched (h : AxisHoming) : Bool :=
  match h.phase with
  | .raising => false
  | .seeking => false
  | .returningStop => true
  | .returningBack => true
  | .home => true

/-- The detail of a HOMING fault (R117). -/
def homingDetail (h : Homing) : Nat := (if h.x.latched then 0 else 1) + (if h.y.latched then 0 else 2)

/-! ## One interpolation period (R103, R112) -/

/-- Feedback and home switches are sampled; the actual positions are feedback plus offset (Table 6-2). -/
def sample (fb : Point) (homeX homeY : Bool) (s : State) : State :=
  (s.setLines { s.lines with feedback := fb, homeX := homeX, homeY := homeY }).setAxis
    { s.axis with actual := ⟨fb.x + s.axis.offset.x, fb.y + s.axis.offset.y⟩ }

/-- The head moves: toward a stop point when one is present, else along the homing motion, else along the plan path in
RUN, HOLD and ABORTING. No step is taken with frozen set-points or unconfigured (R103, R104, R111). -/
def motion (s : State) : State :=
  if !s.configured || s.axis.frozen then s.setAxis { s.axis with speed := 0 }
  else match s.axis.stopRun with
    | some r => homingSeek (stopRunPeriod r s)
    | none =>
      match s.axis.homing with
      | some h => homingPeriod h s
      | none =>
        match s.job.state with
        | .run => pathPeriod s
        | .hold => pathPeriod s
        | .aborting => pathPeriod s
        | .unconfigured | .idle | .homing | .fault | .trip => s.setAxis { s.axis with speed := 0 }

/-- One interpolation period: sampling, the step, the following-error checks, the close point, arrival, and what waits
for standstill. -/
def period (fb : Point) (homeX homeY : Bool) (s : State) : State :=
  settle (arrive (closeWatch (followCheck (motion (sample fb homeX homeY s)))))

end Sys2Proof.Machine
end

