-- ==== Sys2Proof/Machine/Flags.lean ====
section
/-! DEFINITION. Machine/Flags.lean: the flags the part computes for the outside: the flags bytes of replies, reports, the
Status record and the Announce record (Tables 11-4, 11-6, 11-7, R178), the cause present at Clear (Table 1-6), the
TRIP_ACTIVE detail (R10) and the survival flags (R27). -/

namespace Sys2Proof.Machine

open Sys2Proof

/-- A flags byte: the named bits from bit 0 up, and above them the bits the manual does not name, which are free values
of the frame's kind (log entry 3). -/
def flagsByte (kind : Nat) (named : List Bool) : Byte :=
  let value := named.foldr (fun b n => b.toNat + 2 * n) 0
  let mask := BitVec.ofNat 8 (2 ^ named.length - 1)
  (BitVec.ofNat 8 value &&& mask) ||| (Config.unnamedFlagBits kind &&& ~~~mask)

/-- The TRIP_ACTIVE detail: 1 for ESTOP, 2 for OVERPRESSURE, 4 for CATCHER, added (R10). -/
def tripMask (l : Lines) : Nat := l.estop.toNat + 2 * l.overpressure.toNat + 4 * l.catcher.toNat

/-- Any drive-ready input is inactive. -/
def Lines.notReady (l : Lines) : Bool := !l.readyX || !l.readyY || !l.readyZ

/-- The following error of either axis exceeds the warn limit. -/
def beyondWarn (s : State) : Bool :=
  decide (s.cfg.warnLimit < (s.axis.setPoint.x - s.axis.actual.x).natAbs)
  || decide (s.cfg.warnLimit < (s.axis.setPoint.y - s.axis.actual.y).natAbs)

/-- The cause of a recorded kind is present (Table 1-6). -/
def causePresent (s : State) : FaultKind → Bool
  | .following => beyondWarn s
  | .drive => s.lines.notReady
  | .pumpStart => s.pump.state != .off
  | .pumpRamp => s.pump.state != .off
  | .pressureLost => !s.jetClosed
  | .zTimeout => s.lines.zReached != some s.axis.zCmd
  | .homing => s.axis.speed != 0 || s.axis.stopRun.isSome || s.axis.homing.isSome
  | .abrasiveRepeat => !s.jetClosed
  | .valve => !s.lines.valveClosed
  | .estop => s.lines.estop
  | .overpressure => s.lines.overpressure
  | .catcher => s.lines.catcher
  | .valveTrip => !s.lines.valveClosed

/-- A material or template slot is defined, or a Nozzle record is present (R49). -/
def tablesKept (t : Tables) : Bool :=
  t.materials.toList.any Option.isSome || t.templates.toList.any Option.isSome || t.nozzle.isSome

end Sys2Proof.Machine
end

