-- ==== Sys2Proof/Machine/Link.lean ====
section
/-! DEFINITION. Machine/Link.lean: the Link Port (Chapter 11): the Status record, forming a reply, the transmitter's
choice of the next record, the bytes of what it sends, and the receive framer's bookkeeping. -/

namespace Sys2Proof.Machine

open Sys2Proof

/-! ## Replies (R173, R174, R177) -/

/-- The Status record, read from the blocks (Table 11-7). -/
def statusOf (s : State) : Status :=
  { state := s.job.state, sub := s.job.sub, holdReason := s.job.hold.map HoldRecord.reason,
    guardZone := s.job.hold.bind HoldRecord.zone, fault := s.job.fault, actual := s.axis.actual, zCmd := s.axis.zCmd,
    zConfirmed := s.axis.zConfirmed, head := s.queueHead.map (fun e => (e.seq, e.pidx)), fill := s.queue.entries.length,
    free := s.free, expected := s.queue.expected, pumpState := s.pump.state, target := s.pump.target.level,
    code := s.pump.code, reading := s.lines.reading, jet := s.jet.state, feeder := feederEnabled s.jet,
    guardA := s.lines.guardA, lampA := s.zone.lampA, guardB := s.lines.guardB, lampB := s.zone.lampB,
    kerf := s.wear.kerf, minutes := s.wear.minutes, excursions := s.axis.excursions, linkErrors := s.link.errors,
    override := s.job.override, referenced := s.job.referenced, wakePending := wakePending s.cfg s.pump,
    alarm := s.wear.alarm, deferred := s.job.deferred }

/-- The owner's answer to a request: the state it leaves, the result code, the detail word where a rule states one, the
deferred flag, and what follows the common part. -/
structure Answer where
  state : State
  code : ResultCode
  detail : Option Nat
  deferred : Bool
  body : ReplyBody
deriving DecidableEq, Repr

/-- An answer that leaves the state as it was (R4). -/
def refuse (code : ResultCode) (detail : Option Nat) (s : State) : Answer :=
  { state := s, code := code, detail := detail, deferred := false, body := .none }

/-- The OK answer. -/
def okAnswer (detail : Option Nat) (s : State) : Answer :=
  { state := s, code := .ok, detail := detail, deferred := false, body := .none }

/-- The detail word: the one the rules state, or a free value (log entry 2). -/
def detailWord (detail : Option Nat) (s : State) : BitVec 16 :=
  match detail with
  | some n => BitVec.ofNat 16 n
  | none => Config.unstatedDetail s.freeCount

/-- The counter that feeds the free details advances when one is used. -/
def countFree (detail : Option Nat) (s : State) : State :=
  match detail with
  | some _ => s
  | none => { s with freeCount := s.freeCount + 1 }

/-- The reply to a request, its content fixed now (R173, R174). -/
def replyOf (tag : Byte) (kind : Nat) (a : Answer) : Reply :=
  { tag := tag, kind := kind, code := a.code, detail := detailWord a.detail a.state, state := a.state.job.state,
    sub := a.state.job.sub, free := a.state.free, expected := a.state.queue.expected, deferred := a.deferred,
    body := a.body }

/-- A formed reply joins the tail of the Reply List (R173). -/
def appendReply (r : Reply) (s : State) : State := s.setLink { s.link with replies := s.link.replies ++ [r] }

/-- The reply of an answer is formed and joins the list. -/
def deliver (tag : Byte) (kind : Nat) (a : Answer) : State :=
  countFree a.detail (appendReply (replyOf tag kind a) a.state)

/-! ## The transmitter (R175, R176, R178) -/

/-- The transmitter begins the reply at the head of the list. -/
def sendReply (l : Link) : Link :=
  match l.replies with
  | [] => l
  | r :: rs =>
    { l with replies := rs, tx := some (.reply r)
             announces := l.announces.map (fun a => { a with ahead := a.ahead - 1 }) }

/-- The transmitter begins the oldest member of the Pending Report Set. -/
def sendReport (l : Link) : Link :=
  match l.reports with
  | [] => l
  | m :: ms => { l with reports := ms, tx := some (.report m) }

/-- An idle transmitter begins the next record (R176). While an Announce record waits, the replies before it go first
and no report does (R178). -/
def beginNext (l : Link) : Link :=
  match l.tx with
  | some _ => l
  | none =>
    match l.announces with
    | a :: as =>
      if a.ahead = 0 ∨ l.replies = [] then { l with announces := as, tx := some (.announce a) } else sendReply l
    | [] =>
      if (l.lastClass = some .reply ∨ l.replies = []) ∧ l.reports ≠ [] then sendReport l else sendReply l

/-- The transmitter is looked at (R176). -/
def kick (s : State) : State := s.setLink (beginNext s.link)

/-- The transmitter has finished its record; an Announce record leaves the last class as it was (R178). -/
def finishTx (l : Link) : Link :=
  match l.tx with
  | none => l
  | some (.reply _) => { l with tx := none, lastClass := some .reply }
  | some (.report _) => { l with tx := none, lastClass := some .report }
  | some (.announce _) => { l with tx := none }

/-- What ends every command that can change what R163 reads: the lamps are derived, then the transmitter is looked at
(log entry 13). DESIGN CHOICE (log entry 36): a ZONE report so joins after the other reports of the command. -/
def wrapUp (s : State) : State := kick (lampDerive s)

/-! ## Requests (R173) -/

/-- There is room in the Reply List. -/
def State.hasRoom (s : State) : Bool := decide (s.link.replies.length < 16)

/-- A frame is discarded: the link error count rises (R172, R173). -/
def discardFrame (s : State) : State := s.setLink { s.link with errors := satAdd 65535 s.link.errors 1 }

/-- A well-formed request of a kind: an overrun when the list is full, else its answer and its one reply (R173). -/
def serve (tag : Byte) (kind : Nat) (answer : State → Answer) (s : State) : State :=
  if s.hasRoom then kick (deliver tag kind (answer s)) else kick (discardFrame s)

/-! ## Numbers of the enumerated values (Table 11-10) -/

/-- A flag as a byte. -/
def boolByte (b : Bool) : Nat := b.toNat

/-- A pump level's number. -/
def Level.number : Level → Nat
  | .off => 0
  | .standby => 1
  | .pierce => 2
  | .cut => 3

/-- A pump state's number. -/
def PumpState.number : PumpState → Nat
  | .off => 0
  | .starting => 1
  | .ramping => 2
  | .steady => 3

/-- A jet state's number. -/
def JetState.number : JetState → Nat
  | .closed => 0
  | .preparing => 1
  | .feeding => 2
  | .dwell => 3
  | .ramping => 4
  | .opened => 5
  | .closing => 6

/-- A lamp's number. -/
def Lamp.number : Lamp → Nat
  | .off => 0
  | .ready => 1
  | .active => 2
  | .loading => 3
  | .attention => 4

/-- A hold reason's number; 0 is absent. -/
def holdNumber : Option HoldReason → Nat
  | none => 0
  | some .host => 1
  | some .abrasive => 2
  | some .guard => 3

/-- A zone's number; 0 is absent. -/
def zoneNumber : Option Zone → Nat
  | none => 0
  | some .a => 1
  | some .b => 2

/-- A fault record's kind number; 0 is absent. -/
def faultNumber (r : FaultRecord) : Nat := (r.kind.map FaultKind.number).getD 0

/-- A result code's number (Table 11-5). -/
def ResultCode.number : ResultCode → Nat
  | .ok => 0
  | .noEffect => 1
  | .wrongState => 2
  | .queueFull => 3
  | .sequence => 4
  | .range => 5
  | .noSlot => 6
  | .inUse => 7
  | .notReferenced => 8
  | .residency => 9
  | .causePresent => 10
  | .tripActive => 11
  | .badLength => 12
  | .unknownKind => 13

/-! ## The bytes sent (Tables 11-4, 11-6, 11-7, R178) -/

/-- A placement index, FFh when absent. -/
def pidxByte (p : Option Nat) : Nat := p.getD 0xFF

/-- The bytes of the Status record (Table 11-7). -/
def statusBytes (t : Status) : List Byte :=
  writeFields
    ([(1, t.state.number), (1, substateNumber t.sub), (1, holdNumber t.holdReason), (1, zoneNumber t.guardZone),
      (1, faultNumber t.fault), (2, t.fault.detail), (2, t.fault.secondary), (4, ofSigned 4 t.actual.x),
      (4, ofSigned 4 t.actual.y), (1, zNumber t.zCmd), (1, boolByte t.zConfirmed),
      (2, ((t.head.map Prod.fst).getD 0).toNat), (1, pidxByte (t.head.bind Prod.snd)), (2, t.fill), (2, t.free),
      (2, t.expected.toNat)]
     ++ [(1, t.pumpState.number), (1, t.target.number), (1, t.code), (2, t.reading), (1, t.jet.number),
      (1, boolByte t.feeder), (1, boolByte t.guardA), (1, t.lampA.number), (1, boolByte t.guardB), (1, t.lampB.number),
      (2, t.kerf), (4, t.minutes), (2, t.excursions), (2, t.linkErrors), (1, t.override)])
  ++ [flagsByte 0x80 [t.referenced, t.wakePending, t.alarm, t.head.isSome, t.deferred]]

/-- The bytes of the expansion summary (Table 11-4). -/
def summaryBytes (p : PlaceSummary) : List Byte :=
  writeFields [(1, p.count), (2, p.kerf)] ++ [flagsByte 0x80 [p.enlarged, p.leadInClamped, p.bridgeClamped]]
  ++ writeFields [(4, p.radius), (4, p.leadIn), (2, p.bridge)]

/-- The payload of a reply (Table 11-4). -/
def replyPayload (r : Reply) : List Byte :=
  writeFields [(1, r.kind), (1, r.code.number), (2, r.detail.toNat), (1, r.state.number), (1, substateNumber r.sub),
    (2, r.free), (2, r.expected.toNat)]
  ++ [flagsByte 0x80 [r.deferred]]
  ++ (match r.body with
      | .none => []
      | .place p => summaryBytes p
      | .status t => statusBytes t)

/-- The content of a report (Table 11-6). A field of an absent tag or entry travels as zero (log entry 15). -/
def reportContent (r : Report) : List Byte :=
  match r with
  | .state st sub fs fu =>
    writeFields [(1, st.number), (1, substateNumber sub), (1, fs.number), (1, substateNumber fu)]
  | .hold reason z => writeFields [(1, holdNumber reason), (1, zoneNumber z)]
  | .fault f => writeFields [(1, faultNumber f), (2, f.detail), (2, f.secondary)]
  | .retired seq pidx tag =>
    writeFields [(2, seq.toNat), (1, pidxByte pidx), (2, (tag.getD 0).toNat)] ++ [flagsByte 0x93 [tag.isSome]]
  | .pressure st target current code reading latch wake =>
    writeFields [(1, st.number), (1, target.number), (1, current.number), (1, code), (2, reading),
      (1, (latch.map Level.number).getD 0xFF), (1, boolByte wake)]
  | .zone ga la gb lb => writeFields [(1, boolByte ga), (1, la.number), (1, boolByte gb), (1, lb.number)]
  | .wear minutes compare kerf alarm => writeFields [(4, minutes), (4, compare), (2, kerf), (1, boolByte alarm)]
  | .recovery entry sStop sR recut lastPulse short =>
    writeFields [(2, ((entry.map Prod.fst).getD 0).toNat), (1, pidxByte (entry.bind Prod.snd)), (4, sStop), (4, sR),
      (4, recut), (4, lastPulse)]
    ++ [flagsByte 0x97 [short, entry.isNone]]

/-- The number of a reset kind (R178). -/
def ResetKind.number : ResetKind → Nat
  | .powerOn => 1
  | .warm => 2

/-- The payload of an Announce record, 14 bytes (R178). -/
def announcePayload (a : Announce) : List Byte :=
  [0x4A#8, 0x54#8, 0x2D#8, 0x34#8, 0x31#8, 0x30#8]
  ++ writeFields [(1, a.kind.number), (2, 256), (1, 32), (1, 8), (1, 16)]
  ++ [flagsByte 0x81 [a.configured, a.tablesKept, a.wearKept, a.referenced]]
  ++ writeFields [(1, a.state.number)]

/-- The frame of a record on the transmit line: kind 80h with the request's tag for a reply, 90h to 97h with tag 0 for a
report, 81h with tag 0 for an Announce record (R174, R176, R178). -/
def txFrame : TxRecord → List Byte
  | .reply r => frameBytes 0x80 r.tag (replyPayload r)
  | .report m => frameBytes m.report.kindByte 0 (leBytes 1 m.superseded ++ reportContent m.report)
  | .announce a => frameBytes 0x81 0 (announcePayload a)

end Sys2Proof.Machine
end

