-- ==== Sys2Proof/Machine/QueueRequests.lean ====
section
/-! DEFINITION. Machine/QueueRequests.lean: Segment (R32 to R39) and Place (R65 to R80): each one's answer and its
meaning as a command. -/

namespace Sys2Proof.Machine

open Sys2Proof

/-- What ends a request or event that was taken: what waits for standstill and CLOSED, then the lamps (R163). -/
def done (s : State) : State := lampDerive (settle s)

/-- Segment and Place are taken in IDLE, HOMING, RUN and HOLD (Table 1-3). -/
def queueTaken : CtrlState → Bool
  | .idle => true
  | .homing => true
  | .run => true
  | .hold => true
  | .unconfigured | .aborting | .fault | .trip => false

/-- What follows an acceptance: the planner replans, and a head in RUN/STARVED goes on, by an approach where it does not
stand at the start of the new entry (R31, R39, R78). -/
def afterAppend (s : State) : State :=
  if s.inRun .starved then done (proceed (planCore (placeApproach s))) else done (replan s)

/-- The answer to a Segment request (R32, R39). -/
def answerSegment (r : SegmentReq) (s : State) : Answer :=
  if queueTaken s.job.state then
    match segmentRefusal s r, segKindOf r.kind with
    | some (code, detail), _ => refuse code (some detail) s
    | none, none => refuse .range (some 2) s
    | none, some k => okAnswer none (afterAppend (acceptEntries [segmentEntry s k r] s))
  else refuse .wrongState none s

/-- SEGMENT (R32). -/
def execSegment (tag : Byte) (r : SegmentReq) (s : State) : Host.Outcome State Fault Refusal :=
  .next (serve tag 0x05 (answerSegment r) s)

/-- The answer to a Place request (R65, R78, R79). -/
def answerPlace (r : PlaceReq) (s : State) : Answer :=
  if queueTaken s.job.state then
    match placeOutcome s r with
    | .error (code, detail) => refuse code (some detail) s
    | .ok (c, es) =>
      { state := afterAppend (acceptEntries es s), code := .ok, detail := some es.length, deferred := false
        body := .place (placeSummary s.wear.kerf c es.length) }
  else refuse .wrongState (some 0) s

/-- PLACE (R65). -/
def execPlace (tag : Byte) (r : PlaceReq) (s : State) : Host.Outcome State Fault Refusal :=
  .next (serve tag 0x06 (answerPlace r) s)

end Sys2Proof.Machine
end

