-- ==== Sys2Proof/Machine/AxisEvents.lean ====
section
/-! DEFINITION. Machine/AxisEvents.lean: the events at the Axis Interface (Chapter 6): the interpolation period, the
homing timeout, the Z-reached input and its timer, and the drive-ready inputs. -/

namespace Sys2Proof.Machine

open Sys2Proof

/-- INTERPOLATION_PERIOD (R103). -/
def execInterpolationPeriod (fbX fbY : Int) (homeX homeY : Bool) (s : State) : Host.Outcome State Fault Refusal :=
  .next (wrapUp (period ⟨fbX, fbY⟩ homeX homeY s))

/-- The homing timer expires: the HOMING fault (R117). -/
def homingTimedOut (s : State) : State :=
  match s.axis.homing with
  | none => s
  | some h =>
    match h.timer with
    | none => s
    | some _ => raiseFault .homing (homingDetail h) (s.setAxis { s.axis with homing := some { h with timer := none } })

/-- HOMING_TIMEOUT (R117). -/
def execHomingTimeout (s : State) : Host.Outcome State Fault Refusal := .next (wrapUp (homingTimedOut s))

/-- Z_REACHED_CHANGE (R107): the confirmation follows, and the waits for it go on (R115, R123, R128). -/
def execZReachedChange (z : Option ZPos) (s : State) : Host.Outcome State Fault Refusal :=
  .next (wrapUp (settle (seqAdvance (homingSeek (zReach z s)))))

/-- The Z timer expires while PENDING: the Z_TIMEOUT fault (R107). -/
def zTimedOut (s : State) : State :=
  match s.axis.zTimer with
  | none => s
  | some _ =>
    let s1 := s.setAxis { s.axis with zTimer := none }
    if s.axis.zConfirmed then s1 else raiseFault .zTimeout (zNumber s.axis.zCmd) s1

/-- Z_TIMEOUT (R107). -/
def execZTimeout (s : State) : Host.Outcome State Fault Refusal := .next (wrapUp (zTimedOut s))

/-- A drive-ready input at a level. -/
def setReady (a : AxisName) (active : Bool) (l : Lines) : Lines :=
  match a with
  | .x => { l with readyX := active }
  | .y => { l with readyY := active }
  | .z => { l with readyZ := active }

/-- DRIVE_READY_INACTIVE (R114): in a configured state it raises the DRIVE fault for that axis. -/
def execDriveReadyInactive (a : AxisName) (s : State) : Host.Outcome State Fault Refusal :=
  let s1 := s.setLines (setReady a false s.lines)
  .next (wrapUp (if s1.configured then raiseFault .drive (axisNumber a) s1 else s1))

/-- DRIVE_READY_ACTIVE (R114): it changes only the input state. -/
def execDriveReadyActive (a : AxisName) (s : State) : Host.Outcome State Fault Refusal :=
  .next (s.setLines (setReady a true s.lines))

end Sys2Proof.Machine
end

