-- ==== Sys2Proof/Machine/JetEvents.lean ====
section
/-! DEFINITION. Machine/JetEvents.lean: the events at the Jet Sequencer (Chapter 7): its stage timers, the valve-closed
switch and the valve timer, the abrasive pulse and the abrasive window. -/

namespace Sys2Proof.Machine

open Sys2Proof

/-- The stage timer that runs. -/
def State.stageTimer (s : State) : Option StageTimer := s.jet.seq.bind SeqRecord.timer

/-- The settle timer expires in PREPARING (R123). -/
def settleExpiry (s : State) : State :=
  match s.jet.state, s.stageTimer with
  | .preparing, some (.settle _) => done (endPreparing s)
  | _, _ => s

/-- SETTLE_TIMER_EXPIRY (R123). -/
def execSettleTimerExpiry (s : State) : Host.Outcome State Fault Refusal := .next (kick (settleExpiry s))

/-- The lead timer expires in FEEDING: the valve opens (R124). -/
def leadExpiry (s : State) : State :=
  match s.jet.state, s.stageTimer with
  | .feeding, some (.lead _) => done (openValve s)
  | _, _ => s

/-- LEAD_TIMER_EXPIRY (R124). -/
def execLeadTimerExpiry (s : State) : Host.Outcome State Fault Refusal := .next (kick (leadExpiry s))

/-- The dwell timer expires in DWELL: the jet enters RAMPING (R125). -/
def dwellExpiry (s : State) : State :=
  match s.jet.state, s.stageTimer with
  | .dwell, some (.dwell _) => done (enterJetRamping s)
  | _, _ => s

/-- DWELL_TIMER_EXPIRY (R125). -/
def execDwellTimerExpiry (s : State) : Host.Outcome State Fault Refusal := .next (kick (dwellExpiry s))

/-- The jet has closed (R131): the timer stops and the neighbours are told, a recovery that ends there ends (R140), and
a sequence that waited for it enters PREPARING (R122). -/
def jetClosedNow (s : State) : State :=
  let s1 := s.setJet { s.jet with state := .closed, valveTimer := none }
  enterPreparing (pumpValveClosed (wearTold false (recoveryAtSwitch s1)))

/-- The valve-closed switch becomes active (R131). -/
def switchActive (s : State) : State :=
  let s1 := s.setLines { s.lines with valveClosed := true }
  if s1.jet.state = .closing then done (jetClosedNow s1) else s1

/-- VALVE_SWITCH_ACTIVE (R131). -/
def execValveSwitchActive (s : State) : Host.Outcome State Fault Refusal := .next (kick (switchActive s))

/-- The valve-closed switch becomes inactive: with the jet CLOSED, the valve is taken to have opened without a command
(R129). -/
def switchInactive (s : State) : State :=
  let s1 := s.setLines { s.lines with valveClosed := false }
  if s1.jet.state = .closed then
    pumpValveOpen (wearTold true (s1.setJet { s1.jet with state := .closing, valveTimer := valveTimerFull s1 }))
  else s1

/-- VALVE_SWITCH_INACTIVE (R129). -/
def execValveSwitchInactive (s : State) : Host.Outcome State Fault Refusal := .next (kick (switchInactive s))

/-- The condition a valve timeout raises, by the controller state at the expiry (R132). -/
def valveCondition (started : CtrlState) (s : State) : State :=
  match s.job.state with
  | .idle | .homing | .run | .hold => raiseFault .valve started.number s
  | .fault => raiseTrip .valveTrip (faultNumber s.job.fault) s
  | .aborting => raiseTrip .valveTrip 0 s
  | .trip => raiseTrip .valveTrip 0 s
  | .unconfigured => s

/-- The valve timer expires while the jet is CLOSING (R132). -/
def valveTimedOut (s : State) : State :=
  match s.jet.state, s.jet.valveTimer with
  | .closing, some (_, started) => done (valveCondition started (s.setJet { s.jet with valveTimer := none }))
  | _, _ => s

/-- VALVE_TIMER_EXPIRY (R132). -/
def execValveTimerExpiry (s : State) : Host.Outcome State Fault Refusal := .next (kick (valveTimedOut s))

/-- ABRASIVE_PULSE (R135): an armed monitor takes the position and starts its window again. -/
def execAbrasivePulse (s : State) : Host.Outcome State Fault Refusal :=
  .next (if s.jet.armed then armMonitor s else s)

/-- An abrasive loss (R135, R140): a repeat while the recovery record is pending, else the ABRASIVE hold. With
the queue empty there is no executing entry, and the detail of the repeat is a free value (log entry 49). -/
def abrasiveLoss (s : State) : State :=
  if s.recovering then
    let detail :=
      match s.queueHead with
      | some e => e.seq.toNat
      | none => (Config.unstatedRepeatDetail ((s.jet.recovery.map RecoveryRec.sStop).getD 0)).toNat
    raiseFault .abrasiveRepeat detail s
  else raiseHold .abrasive none .along s

/-- The window timer expires while the monitor is armed (R135). -/
def windowExpiry (s : State) : State :=
  if s.jet.armed then done (abrasiveLoss (s.setJet (disarm s.jet))) else s

/-- ABRASIVE_WINDOW_EXPIRY (R135). -/
def execAbrasiveWindowExpiry (s : State) : Host.Outcome State Fault Refusal := .next (kick (windowExpiry s))

end Sys2Proof.Machine
end

