-- ==== Sys2Proof/Machine/Wear.lean ====
section
/-! DEFINITION. Machine/Wear.lean: the Wear Counter (Chapter 10): the kerf estimate, the minute event, the count of
jet-on time, and what accepting a Nozzle record sets (R57). -/

namespace Sys2Proof.Machine

open Sys2Proof

/-- The kerf estimate of a Nozzle record at a minutes count (R167). -/
def kerfOf (n : NozzleRec) (minutes : Nat) : Nat := min n.kMax (n.k0 + n.growth * minutes / 60)

/-- The WEAR report (R169). -/
def wearReport (n : NozzleRec) (w : Wear) : Report := .wear w.minutes n.compare w.kerf w.alarm

/-- The compare of R168 and of step 4 of R57: a compare value above 0 that the minutes have reached, with the alarm
clear, sets the alarm and posts a WEAR report. -/
def wearCompare (n : NozzleRec) (s : State) : State :=
  if 0 < n.compare ∧ n.compare ≤ s.wear.minutes ∧ s.wear.alarm = false then
    let w := { s.wear with alarm := true }
    post (wearReport n w) (s.setWear w)
  else s

/-- A minute event (R166 to R168): the minutes rise to at most 999,999, the seconds and the residue are 0, the kerf is
recomputed, and then the minutes are compared. -/
def minuteRise (n : NozzleRec) (s : State) : State :=
  let minutes := satAdd 999999 s.wear.minutes 1
  wearCompare n (s.setWear { s.wear with minutes := minutes, seconds := 0, residue := 0, kerf := kerfOf n minutes })

/-- Time is added to the count: the timing flag is set, a Nozzle record is present, and the count is not saturated. -/
def State.wearRuns (s : State) : Bool := s.wear.timing && s.tables.nozzle.isSome && decide (s.wear.minutes < 999999)

/-- One millisecond of jet-on time (R166). -/
def wearMs (s : State) : State :=
  match s.tables.nozzle with
  | none => s
  | some n =>
    if s.wearRuns then
      if s.wear.residue + 1 < 1000 then s.setWear { s.wear with residue := s.wear.residue + 1 }
      else if s.wear.seconds + 1 < 60 then s.setWear { s.wear with residue := 0, seconds := s.wear.seconds + 1 }
      else minuteRise n s
    else s

/-- What accepting a Nozzle record with `used` minutes does to the Wear Counter, in the order of R57. -/
def nozzleAccepted (n : NozzleRec) (used : Nat) (s : State) : State :=
  wearCompare n (s.setWear
    { s.wear with minutes := used, seconds := 0, residue := 0, alarm := false, kerf := kerfOf n used })

end Sys2Proof.Machine
end

