-- ==== Sys2Proof/Machine/Reset.lean ====
section
/-! DEFINITION. Machine/Reset.lean: the two resets (R25 to R27, R178, Table 1-9) and what they leave to act at once
(R10, R114). -/

namespace Sys2Proof.Machine

open Sys2Proof

/-- The trip inputs that are active, in the order of Table 1-5. -/
def activeTrips (l : Lines) : List FaultKind :=
  (if l.estop then [FaultKind.estop] else []) ++ (if l.overpressure then [FaultKind.overpressure] else [])
  ++ (if l.catcher then [FaultKind.catcher] else [])

/-- Trip inputs active right after a reset act on the state it produced (R10). -/
def tripsAfterReset (s : State) : State := (activeTrips s.lines).foldl (fun t k => raiseTrip k 0 t) s

/-- The Announce record of a reset (R27). -/
def announceOf (kind : ResetKind) (ahead : Nat) (s : State) : Announce :=
  { ahead := ahead, kind := kind, configured := s.configured, tablesKept := kind == .warm && tablesKept s.tables,
    wearKept := kind == .warm, referenced := s.job.referenced, state := s.job.state }

/-! ## Power-on reset (R25) -/

/-- Everything as Table 1-9 and the blocks' tables give it after power-on reset, for the levels at which the lines
stand. -/
def powerOnState (l : Lines) : State :=
  { State.reset with
    lines := l
    axis := { State.reset.axis with setPoint := l.feedback, actual := l.feedback, zConfirmed := l.zReached == some .clear }
    jet := { State.reset.jet with state := if l.valveClosed then .closed else .closing }
    wear := { State.reset.wear with timing := !l.valveClosed } }

/-- The power-on reset completes: the Announce record goes first, and a trip input that is active then acts (R25). -/
def powerOn (s : State) : State :=
  let s1 := powerOnState s.lines
  let s2 := s1.setLink { s1.link with tx := some (.announce (announceOf .powerOn 0 s1)) }
  tripsAfterReset { s2 with freeCount := s.freeCount, pending := s.pending }

/-! ## Warm reset (R26) -/

/-- The jet after a warm reset (R120): CLOSING where the valve may stand open, with its timer, else CLOSED. The monitor,
the contour and the recovery record are cleared, and a sequence ends. -/
def warmJet (s : State) : State :=
  let s1 := clearJetRecords (endSequence (s.setJet { s.jet with rate := 0, cutEntry := none }))
  if s1.jet.state.valveOpen || s1.jet.state == .closing || !s1.lines.valveClosed then
    s1.setJet { s1.jet with state := .closing, valveTimer := valveTimerFull s1 }
  else s1.setJet { s1.jet with state := .closed, valveTimer := none }

/-- The controller after a warm reset (Table 1-9). -/
def warmJob (s : State) : State :=
  s.setJob { s.job with
    state := if s.configured then .idle else .unconfigured
    sub := none, hold := none, deferred := false, fault := FaultRecord.cleared, residency := none
    referenced := s.job.referenced && !s.lines.notReady }

/-- The pump after a warm reset (R153, Table 8-2): the target of a running pump becomes STANDBY, and the band and ladder
timers stop before the ladder is looked at again. -/
def warmPump (s : State) : State :=
  let s1 := orderStandby s
  ladder (s1.setPump { s1.pump with band := none, standbyTimer := none, offTimer := none })

/-- The axes after a warm reset (R102, R110): a moving head is brought to standstill along its path. DESIGN CHOICE (log
entry 40): the beyond flags stand until the next period. -/
def warmAxis (s : State) : State :=
  let s1 := orderStop s.cfg.aTraverse s
  s1.setAxis { s1.axis with
    frozen := false, pathPos := 0, excursions := 0, threshold := false
    speed := if s1.axis.stopRun.isSome || s1.axis.homing.isSome then s1.axis.speed else 0 }

/-- Z after a warm reset: its timer where the part is configured, and CLEAR at standstill (R107, R108). -/
def warmZ (s : State) : State := if s.configured then clearAtRest (zTimerOnConfigured s) else s

/-- The warm reset (R26): every block at once, the valve timer with the state the reset leaves (R120); the reports
pending and those of the reset's own changes are discarded (R178). -/
def warmReset (s : State) : State :=
  let s1 := warmJet (warmJob (flush (warmAxis s)))
  let s2 := lampDerive (deriveClosed (planCore (warmZ (warmPump s1))))
  s2.setLink { s2.link with reports := [] }

/-- What the warm reset leaves to act at once: the DRIVE fault, then the trip inputs (R10, R114). -/
def afterWarmReset (s : State) : State := lampDerive (tripsAfterReset (driveCheck s))

end Sys2Proof.Machine
end

