-- ==== Sys2Proof/Machine/JobRequests.lean ====
section
/-! DEFINITION. Machine/JobRequests.lean: the requests the Job Controller owns (Chapter 1) and Query: each one's answer
by Table 1-3 and its rules, and its meaning as a command. -/

namespace Sys2Proof.Machine

open Sys2Proof

/-! ## Configure (R22, R23) -/

/-- What accepting the first Configure record sets going (R23, R107, R114, R120, R157). -/
def firstConfigured (s : State) : State :=
  let s1 := deriveClosed (setState .idle none s)
  let s2 := if s1.jet.state = .closing then s1.setJet { s1.jet with valveTimer := valveTimerFull s1 } else s1
  driveCheck (planCore (zTimerOnConfigured s2))

/-- What replacing the record in force sets going (R23, R118, R154, R157). -/
def replacedConfig (old : ConfigRec) (s : State) : State := planCore (pumpConfigured old (deriveClosed s))

/-- Configure is taken in UNCONFIGURED, and in IDLE with the queue empty (Table 1-3). -/
def configureTaken (s : State) : Bool :=
  s.job.state == .unconfigured || (s.job.state == .idle && s.queue.entries.isEmpty)

/-- The answer to a Configure request (R22, R23). -/
def answerConfigure (r : ConfigRec) (s : State) : Answer :=
  if configureTaken s then
    match firstFault (configChecks r) with
    | some n => refuse .range (some n) s
    | none =>
      let s1 := s.setConfig (some r)
      okAnswer none (done (if s.job.state = .unconfigured then firstConfigured s1 else replacedConfig s.cfg s1))
  else refuse .wrongState none s

/-- CONFIGURE (R22). -/
def execConfigure (tag : Byte) (r : ConfigRec) (s : State) : Host.Outcome State Fault Refusal :=
  .next (serve tag 0x01 (answerConfigure r) s)

/-! ## Run (R18) -/

/-- What a Run taken in IDLE does (R18). -/
def startRun (s : State) : State :=
  let s1 := s.setAxis { s.axis with excursions := 0, threshold := false }
  done (proceed (planCore (placeApproach s1)))

/-- The answer to a Run request (R18). -/
def answerRun (s : State) : Answer :=
  match s.job.state with
  | .idle => if s.job.referenced then okAnswer none (startRun s) else refuse .notReferenced none s
  | .run => refuse .noEffect none s
  | .unconfigured | .homing | .hold | .aborting | .fault | .trip => refuse .wrongState none s

/-- RUN (R18). -/
def execRun (tag : Byte) (s : State) : Host.Outcome State Fault Refusal := .next (serve tag 0x07 answerRun s)

/-! ## Hold (R13, R14) -/

/-- The head stands already: HELD with the jet CLOSED, STOPPING until it is. -/
def heldIf (closed : Bool) : Substate := if closed then .held else .stopping

/-- A Hold taken in RUN, by the substate and, in PIERCING, by the jet state (R13); the deferred case is R14's. -/
def takeHold (s : State) : State :=
  match s.job.sub with
  | some .zoneWait => enterHold (heldIf (s.jetClosed && s.atRest)) .host none .along s
  | some .starved => enterHold (heldIf (s.jetClosed && s.atRest)) .host none .along s
  | some .piercing =>
    match s.jet.state with
    | .preparing => enterHold (heldIf s.lines.valveClosed) .host none .along s
    | .feeding => enterHold (heldIf s.lines.valveClosed) .host none .along s
    | _ => enterHold .stopping .host none .along s
  | _ => enterHold .stopping .host none .along s

/-- A Hold is deferred while a sequence has the valve open (R14). -/
def holdDeferred (s : State) : Bool := s.inRun .piercing && (s.jet.state == .dwell || s.jet.state == .ramping)

/-- The answer to a Hold request (R13, R14). -/
def answerHold (s : State) : Answer :=
  match s.job.state with
  | .run =>
    if holdDeferred s then { okAnswer none (s.setJob { s.job with deferred := true }) with deferred := true }
    else okAnswer none (done (takeHold s))
  | .idle => refuse .noEffect none s
  | .hold => refuse .noEffect none s
  | .unconfigured | .homing | .aborting | .fault | .trip => refuse .wrongState none s

/-- HOLD (R13). -/
def execHold (tag : Byte) (s : State) : Host.Outcome State Fault Refusal := .next (serve tag 0x08 answerHold s)

/-! ## Resume (R17) -/

/-- The guard zone of the hold record, while its guard input is OPEN (R17). -/
def openGuardZone (s : State) : Option Zone := (s.job.hold.bind HoldRecord.zone).filter s.lines.guardOpen

/-- What a Resume taken in HOLD/HELD does (R17, R137): the hold stop is lifted, a transition point is dropped (log entry
16), and the head goes on from standstill. DESIGN CHOICE (log entry 36): the reports are posted in the order HOLD,
RECOVERY, STATE. -/
def takeResume (s : State) : State :=
  let abrasive := (s.job.hold.map HoldRecord.reason) == some .abrasive
  let s1 := clearHold (s.setPlan { s.plan with holdStop := none, transition := none })
  let s2 := if abrasive then recoveryStart s1 else s1
  done (proceed (planCore (placeApproach s2)))

/-- The answer to a Resume request (R17). -/
def answerResume (s : State) : Answer :=
  match s.job.state with
  | .hold =>
    if s.job.sub = some .held then
      match openGuardZone s with
      | some z => refuse .causePresent (some (zoneNumber (some z))) s
      | none => okAnswer none (takeResume s)
    else refuse .wrongState none s
  | .idle => refuse .noEffect none s
  | .run => refuse .noEffect none s
  | .unconfigured | .homing | .aborting | .fault | .trip => refuse .wrongState none s

/-- RESUME (R17). -/
def execResume (tag : Byte) (s : State) : Host.Outcome State Fault Refusal := .next (serve tag 0x09 answerResume s)

/-! ## Stop (R11, R101) -/

/-- The ABORT stop, at the a_traverse stopping distance or at a nearer planned stop, replaces the hold stop and every
other stop, and the creep stretch goes (R101). While the head still coasts to a stop point of R110, or the axes of a
reference run come to rest, it stands at the start of the plan path (log entry 32). -/
def placeAbortStop (s : State) : State :=
  let t : Stop := { kind := .abort, pos := stopPointOrNearer s s.cfg.aTraverse, decel := s.cfg.aTraverse,
                    committed := true, zone := none, inside := false }
  s.setPlan { s.plan with stops := [t], holdStop := none, creep := none, closePoint := none,
                          anchors := [{ pos := (s.headPos : Int), speed := s.pathSpeed }] }

/-- A Stop ends a reference run: its axes come to rest at a_traverse, and the referenced flag is clear (R117). -/
def stopHoming (s : State) : State :=
  let s1 := orderStop s.cfg.aTraverse s
  s1.setJob { s1.job with referenced := false }

/-- Entry to ABORTING (R11, R117). DESIGN CHOICE (log entry 36): its STATE report is posted before the HOLD report. -/
def enterAborting (s : State) : State :=
  let homing := s.job.state == .homing
  let s1 := closeCommand (discardHold (setState .aborting none s))
  placeAbortStop (if homing then stopHoming s1 else s1)

/-- A Stop taken in IDLE flushes the queue (R11). -/
def stopIdle (s : State) : State :=
  let s1 := flush s
  s1.setJet { s1.jet with contour := none, recovery := none }

/-- The answer to a Stop request (R11, R12). -/
def answerStop (s : State) : Answer :=
  match s.job.state with
  | .idle => okAnswer none (done (stopIdle s))
  | .homing => okAnswer none (done (enterAborting s))
  | .run => okAnswer none (done (enterAborting s))
  | .hold => okAnswer none (done (enterAborting s))
  | .aborting => refuse .noEffect none s
  | .fault => refuse .noEffect none s
  | .unconfigured | .trip => refuse .wrongState none s

/-- STOP (R11). -/
def execStop (tag : Byte) (s : State) : Host.Outcome State Fault Refusal := .next (serve tag 0x0A answerStop s)

/-! ## Clear (R8, R118) -/

/-- What a Clear taken in FAULT does (R8, R118): the head holds where the drives stand, so that a deceleration that
still runs ends there, with the CLEAR of that standstill (R108). DESIGN CHOICE (log entry 36): the FAULT report is
posted before the STATE report. -/
def takeClear (s : State) : State :=
  let s1 := setState .idle none (setFault FaultRecord.cleared s)
  let s2 := (s1.setJob { s1.job with residency := none }).setAxis { s1.axis with
    setPoint := s1.axis.actual, frozen := false, beyondX := false, beyondY := false, speed := 0, stopRun := none
    homing := none }
  done (planCore (if s.atRest then s2 else clearAfterStop s2))

/-- The answer to a Clear request (R8). -/
def answerClear (s : State) : Answer :=
  match s.job.state with
  | .fault =>
    match s.job.residency with
    | some ms => refuse .residency (some (max 1 ms)) s
    | none =>
      match s.job.fault.kind with
      | some k => if causePresent s k then refuse .causePresent (some k.number) s else okAnswer none (takeClear s)
      | none => okAnswer none (takeClear s)
  | .trip => refuse .wrongState none s
  | .unconfigured | .idle | .homing | .run | .hold | .aborting => refuse .noEffect none s

/-- CLEAR (R8). -/
def execClear (tag : Byte) (s : State) : Host.Outcome State Fault Refusal := .next (serve tag 0x0B answerClear s)

/-! ## Reference (R20, R115) -/

/-- What a Reference taken in IDLE does: a reference run begins in RAISING (R20, R115). An axis still coming to rest
does so first. -/
def takeReference (s : State) : State :=
  let still (f : Homing → AxisHoming) : AxisHoming :=
    { phase := .raising, run := s.axis.homing.bind (fun h => (f h).run) }
  let s1 := setState .homing none (s.setJob { s.job with referenced := false })
  let s2 := s1.setAxis { s1.axis with
    homing := some { x := still Homing.x, y := still Homing.y, timer := some s1.cfg.homingTimeout, ending := false } }
  done (homingSeek (planCore (zCommand .clear s2)))

/-- The answer to a Reference request (R20). -/
def answerReference (s : State) : Answer :=
  match s.job.state with
  | .idle => okAnswer none (takeReference s)
  | .homing => refuse .noEffect none s
  | .unconfigured | .run | .hold | .aborting | .fault | .trip => refuse .wrongState none s

/-- REFERENCE (R20). -/
def execReference (tag : Byte) (s : State) : Host.Outcome State Fault Refusal := .next (serve tag 0x0C answerReference s)

/-! ## Override (R24, R93) -/

/-- The clamp of an override percent (R24). -/
def clampOverride (percent : Nat) : Nat := max 10 (min 150 percent)

/-- The transition point of an Override taken in RUN or HOLD: placed where the head's speed exceeds the new limit of the
queue entry it is on (R93). `former` is the percent whose limits the head follows. -/
def transitionFor (s : State) (former : Nat) : Option Transition :=
  match s.plan.legs with
  | [] => none
  | l :: _ =>
    if l.kind = .entry ∧ l.cutting ∧ l.limit < s.pathSpeed then
      some { pos := (s.headPos : Int) + ((slowDist s.pathSpeed l.limit s.cfg.aCut : Nat) : Int), former := former
             after := l.limit }
    else none

/-- The override percent whose limits the head follows: before a transition point, the one that stands up to it (R93).
-/
def State.percentHere (s : State) : Nat :=
  match s.plan.transition with
  | some t => if (s.headPos : Int) < t.pos then t.former else s.job.override
  | none => s.job.override

/-- The replan of an Override in RUN or HOLD (R93). -/
def overridePlan (former : Nat) (s : State) : State :=
  let s1 := planCore (s.setPlan { s.plan with transition := none })
  replan (s1.setPlan { s1.plan with transition := transitionFor s1 former })

/-- What an Override does (R24). -/
def takeOverride (percent : Nat) (s : State) : State :=
  let s1 := s.setJob { s.job with override := clampOverride percent }
  match s.job.state with
  | .run => done (overridePlan s.percentHere s1)
  | .hold => done (overridePlan s.percentHere s1)
  | .unconfigured | .idle | .homing | .aborting | .fault | .trip => s1

/-- The answer to an Override request, taken in every state (R24). -/
def answerOverride (percent : Nat) (s : State) : Answer :=
  okAnswer (some (clampOverride percent)) (takeOverride percent s)

/-- OVERRIDE (R24). -/
def execOverride (tag : Byte) (percent : Nat) (s : State) : Host.Outcome State Fault Refusal :=
  .next (serve tag 0x0E (answerOverride percent) s)

/-! ## Query (R177) -/

/-- The answer to a Query: the Status record, and no change of state. -/
def answerQuery (s : State) : Answer :=
  { state := s, code := .ok, detail := none, deferred := false, body := .status (statusOf s) }

/-- QUERY (R177). -/
def execQuery (tag : Byte) (s : State) : Host.Outcome State Fault Refusal := .next (serve tag 0x0F answerQuery s)

/-! ## Restart (R10, R26, R178) -/

/-- The answer to a Restart request: TRIP_ACTIVE in TRIP while a trip input is active, else the warm reset (R10, R26).
-/
def answerRestart (s : State) : Answer :=
  if s.job.state = .trip ∧ tripMask s.lines ≠ 0 then refuse .tripActive (some (tripMask s.lines)) s
  else okAnswer none (warmReset s)

/-- The Restart's reply is formed after the reset; the Announce record waits behind it and the replies ahead of it, and
then what the reset leaves to act at once acts (R26, R178). -/
def restartWithRoom (tag : Byte) (s : State) : State :=
  let a := answerRestart s
  let s1 := deliver tag 0x10 a
  if a.code = .ok then
    afterWarmReset (s1.setLink
      { s1.link with announces := s1.link.announces ++ [announceOf .warm s1.link.replies.length a.state] })
  else s1

/-- RESTART (R26). -/
def execRestart (tag : Byte) (s : State) : Host.Outcome State Fault Refusal :=
  .next (kick (if s.hasRoom then restartWithRoom tag s else discardFrame s))

end Sys2Proof.Machine
end

