-- ==== Sys2Proof/Machine/TableRequests.lean ====
section
/-! DEFINITION. Machine/TableRequests.lean: the definition requests of the Table Store (Chapter 3) and the host's
Pressure request (R152): each one's answer, and its meaning as a command. -/

namespace Sys2Proof.Machine

open Sys2Proof

/-! ## Material (R50 to R53) -/

/-- Material and Template are taken in every state but UNCONFIGURED and TRIP (Table 1-3, R50). -/
def tablesTaken : CtrlState → Bool
  | .unconfigured => false
  | .trip => false
  | .idle | .homing | .run | .hold | .aborting | .fault => true

/-- A slot of the Material Table takes a record. -/
def putMaterial (t : Tables) (slot : Nat) (m : MaterialRec) : Tables :=
  { t with materials := t.materials.mapFinIdx (fun i old _ => if i = slot then some m else old) }

/-- The use count of a slot (R40). -/
def useCount (s : State) (slot : Nat) : Nat := s.queue.uses[slot]?.getD 0

/-- The refusal of a Material record, by the order of R51. -/
def materialRefusal (s : State) (r : MaterialReq) : Option (ResultCode × Nat) :=
  if 7 < r.slot then some (.range, 1)
  else if 0 < useCount s r.slot then some (.inUse, useCount s r.slot)
  else (firstFault (materialChecks r)).map (fun n => (ResultCode.range, n))

/-- The answer to a Material request (R50 to R52). -/
def answerMaterial (r : MaterialReq) (s : State) : Answer :=
  if tablesTaken s.job.state then
    match materialRefusal s r with
    | some (code, detail) => refuse code (some detail) s
    | none => okAnswer (some r.slot) (s.setTables (putMaterial s.tables r.slot (materialRecOf r)))
  else refuse .wrongState none s

/-- MATERIAL (R51). -/
def execMaterial (tag : Byte) (r : MaterialReq) (s : State) : Host.Outcome State Fault Refusal :=
  .next (serve tag 0x02 (answerMaterial r) s)

/-! ## Nozzle (R50, R56, R57) -/

/-- Nozzle is taken in IDLE, HOMING and FAULT (R50). -/
def nozzleTaken : CtrlState → Bool
  | .idle => true
  | .homing => true
  | .fault => true
  | .unconfigured | .run | .hold | .aborting | .trip => false

/-- The answer to a Nozzle request (R56, R57). -/
def answerNozzle (r : NozzleReq) (s : State) : Answer :=
  if nozzleTaken s.job.state then
    match firstFault (nozzleChecks r) with
    | some n => refuse .range (some n) s
    | none =>
      let rec' := nozzleRecOf r
      okAnswer (some (kerfOf rec' r.used))
        (nozzleAccepted rec' r.used (s.setTables { s.tables with nozzle := some rec' }))
  else refuse .wrongState none s

/-- NOZZLE (R57). -/
def execNozzle (tag : Byte) (r : NozzleReq) (s : State) : Host.Outcome State Fault Refusal :=
  .next (serve tag 0x03 (answerNozzle r) s)

/-! ## Template (R60, R61) -/

/-- A slot of the Template Table takes a record. -/
def putTemplate (t : Tables) (slot : Nat) (m : TemplateRec) : Tables :=
  { t with templates := t.templates.mapFinIdx (fun i old _ => if i = slot then some m else old) }

/-- The refusal of a Template record, by the order of R60. -/
def templateRefusal (r : TemplateReq) : Option (ResultCode × Nat) :=
  if 15 < r.slot then some (.range, 1) else (firstFault (templateChecks r)).map (fun n => (ResultCode.range, n))

/-- The answer to a Template request (R60, R61). -/
def answerTemplate (r : TemplateReq) (s : State) : Answer :=
  if tablesTaken s.job.state then
    match templateRefusal r with
    | some (code, detail) => refuse code (some detail) s
    | none => okAnswer (some r.slot) (s.setTables (putTemplate s.tables r.slot (templateRecOf r)))
  else refuse .wrongState none s

/-- TEMPLATE (R60). -/
def execTemplate (tag : Byte) (r : TemplateReq) (s : State) : Host.Outcome State Fault Refusal :=
  .next (serve tag 0x04 (answerTemplate r) s)

/-! ## Pressure (R152) -/

/-- Pressure is taken in IDLE, in HOLD/HELD, and in FAULT for level OFF (Table 1-3). -/
def pressureTaken (j : Job) (level : Nat) : Bool :=
  match j.state with
  | .idle => true
  | .hold => j.sub == some .held
  | .fault => level == 0
  | .unconfigured | .homing | .run | .aborting | .trip => false

/-- The level request a Pressure makes, or its refusal (R152). -/
def pressureLevel (s : State) (level slot : Nat) : Except (ResultCode × Nat) LevelReq :=
  match level with
  | 0 => .ok ⟨.off, 0⟩
  | 1 => .ok ⟨.standby, 0⟩
  | 2 =>
    match s.material slot with
    | some m => .ok ⟨.cut, m.pCut⟩
    | none => .error (.noSlot, slot)
  | _ => .error (.range, 1)

/-- The answer to a Pressure request (R152): the detail is the code the request resolves to. -/
def answerPressure (level slot : Nat) (s : State) : Answer :=
  if pressureTaken s.job level then
    match pressureLevel s level slot with
    | .error (code, detail) => refuse code (some detail) s
    | .ok r => okAnswer (some (requestCode s.cfg r)) (levelRequest r s)
  else refuse .wrongState none s

/-- PRESSURE (R152). -/
def execPressure (tag : Byte) (level slot : Nat) (s : State) : Host.Outcome State Fault Refusal :=
  .next (serve tag 0x0D (answerPressure level slot) s)

end Sys2Proof.Machine
end

