-- ==== Sys2Proof/Machine/LinkEvents.lean ====
section
/-! DEFINITION. Machine/LinkEvents.lean: the events at the Link Port (R172, R173, R176): a received byte with the frame
it may complete, the gap timer, and the end of a transmission. -/

namespace Sys2Proof.Machine

open Sys2Proof

/-! ## A completed frame (R173) -/

/-- The owner's answer to a request offered to the Job Controller. -/
def answerOf (r : Request) (s : State) : Answer :=
  match r with
  | .configure r => answerConfigure r s
  | .material r => answerMaterial r s
  | .nozzle r => answerNozzle r s
  | .template r => answerTemplate r s
  | .segment r => answerSegment r s
  | .place r => answerPlace r s
  | .run => answerRun s
  | .hold => answerHold s
  | .resume => answerResume s
  | .stop => answerStop s
  | .clear => answerClear s
  | .reference => answerReference s
  | .pressure level slot => answerPressure level slot s
  | .override percent => answerOverride percent s
  | .query => answerQuery s
  | .restart => answerRestart s

/-- A frame completed by the framer (R173): room, kind, length, then the request. -/
def frameDone (kind : Nat) (tag : Byte) (payload : List Byte) (s : State) : State :=
  if s.hasRoom then
    match payloadLength kind with
    | none => deliver tag kind (refuse .unknownKind (some kind) s)
    | some n =>
      if payload.length = n then
        match parseRequest kind payload with
        | some .restart => restartWithRoom tag s
        | some r => deliver tag kind (answerOf r s)
        | none => deliver tag kind (refuse .badLength (some n) s)
      else deliver tag kind (refuse .badLength (some n) s)
  else discardFrame s

/-! ## The receive framer (R172) -/

/-- The framer in a phase, with the bytes held and the gap timer in full. -/
def framer (p : Phase) (held : List Byte) (s : State) : State :=
  s.setLink { s.link with phase := p, held := held, gap := some 5 }

/-- The framer back in HUNT, with nothing held and the gap timer stopped. -/
def hunt (s : State) : State := s.setLink { s.link with phase := .hunt, held := [], gap := none }

/-- The length field of the bytes held from offset 2 on. -/
def heldLength (held : List Byte) : Nat := leNat (held.take 2)

/-- HEADER takes a byte: a length above 96 discards the frame at once. -/
def headerByte (held : List Byte) (s : State) : State :=
  if held.length = 2 ∧ 96 < heldLength held then hunt (discardFrame s)
  else if held.length < 4 then framer .header held s
  else framer (if heldLength held = 0 then .check else .payload) held s

/-- PAYLOAD takes a byte: after n payload bytes the CRC follows. -/
def payloadByte (held : List Byte) (s : State) : State :=
  framer (if held.length < 4 + heldLength held then .payload else .check) held s

/-- CHECK takes a byte: with both, a CRC that matches completes the frame and one that differs discards it. -/
def checkByte (held : List Byte) (s : State) : State :=
  let n := heldLength held
  if held.length < 6 + n then framer .check held s
  else
    let body := held.take (4 + n)
    let s1 := hunt s
    if leNat (held.drop (4 + n)) = (crc body).toNat then
      frameDone ((body.getD 2 0).toNat) (body.getD 3 0) (body.drop 4) s1
    else discardFrame s1

/-- A received byte, by the phase (R172). -/
def takeByte (b : Byte) (s : State) : State :=
  match s.link.phase with
  | .hunt => if b = 0xC3#8 then framer .sync [] s else s
  | .sync => if b = 0x5A#8 then framer .header [] s else if b = 0xC3#8 then framer .sync [] s else hunt s
  | .header => headerByte (s.link.held ++ [b]) s
  | .payload => payloadByte (s.link.held ++ [b]) s
  | .check => checkByte (s.link.held ++ [b]) s

/-- RECEIVED_BYTE (R172). -/
def execReceivedByte (b : Byte) (s : State) : Host.Outcome State Fault Refusal := .next (kick (takeByte b s))

/-- The gap timer expires: in SYNC the framer only goes back to HUNT, later the frame is discarded (R172). -/
def gapExpiry (s : State) : State :=
  match s.link.gap, s.link.phase with
  | none, _ => s
  | some _, .hunt => hunt s
  | some _, .sync => hunt s
  | some _, _ => hunt (discardFrame s)

/-- GAP_TIMER_EXPIRY (R172). -/
def execGapTimerExpiry (s : State) : Host.Outcome State Fault Refusal := .next (gapExpiry s)

/-- TRANSMIT_COMPLETE (R176). -/
def execTransmitComplete (s : State) : Host.Outcome State Fault Refusal := .next (kick (s.setLink (finishTx s.link)))

end Sys2Proof.Machine
end

