-- ==== Sys2Proof/Machine/PumpEvents.lean ====
section
/-! DEFINITION. Machine/PumpEvents.lean: the events at the Pump Manager (Chapter 8). After each, the sequence that waits
for the pump is looked at (R123, R128). -/

namespace Sys2Proof.Machine

open Sys2Proof

/-- What ends an event at the pump. -/
def pumpDone (s : State) : State := wrapUp (settle (seqAdvance s))

/-- PUMP_RUNNING_ACTIVE (R146): found in STARTING it ends the start; elsewhere it is not acted on. -/
def execPumpRunningActive (s : State) : Host.Outcome State Fault Refusal :=
  let s1 := s.setLines { s.lines with pumpRunning := true }
  .next (if s1.pump.state = .starting then pumpDone (startEnds s1) else s1)

/-- The pump-running input lost in RAMPING or STEADY (R148): PRESSURE_LOST with the valve read as open, else STARTING
again. -/
def runningLost (s : State) : State :=
  if s.pump.valveOpen then raiseFault .pressureLost s.lines.reading s else enterStarting s.pump.target s

/-- PUMP_RUNNING_INACTIVE (R148). -/
def execPumpRunningInactive (s : State) : Host.Outcome State Fault Refusal :=
  let s1 := s.setLines { s.lines with pumpRunning := false }
  .next (if s1.pump.state = .ramping ∨ s1.pump.state = .steady then pumpDone (runningLost s1) else s1)

/-- The start timer expires in STARTING: the pump stops and PUMP_START is raised (R146). -/
def startExpiry (s : State) : State :=
  match s.pump.state, s.pump.startTimer with
  | .starting, some _ => pumpDone (raiseFault .pumpStart (min 65535 s.cfg.startTimeout) (pumpStop s))
  | _, _ => s

/-- START_TIMER_EXPIRY (R146). -/
def execStartTimerExpiry (s : State) : Host.Outcome State Fault Refusal := .next (startExpiry s)

/-- A reading acts on a ramp or on the watches of STEADY (R147 to R149). -/
def takeReading (s : State) : State :=
  match s.pump.state with
  | .ramping =>
    if readingFits s s.pump.code then pumpDone (rampEnds s) else s
  | .steady => steadyReading s
  | .off => s
  | .starting => s

/-- TRANSDUCER_READING (R147). From this reading on the tolerance of the record in force applies (R154). -/
def execTransducerReading (mpa : Nat) (s : State) : Host.Outcome State Fault Refusal :=
  .next (takeReading ((s.setLines { s.lines with reading := mpa }).setPump { s.pump with formerTolerance := none }))

/-- The ramp timer expires in RAMPING: the pump stops and PUMP_RAMP is raised (R147). -/
def rampExpiry (s : State) : State :=
  match s.pump.state, s.pump.rampTimer with
  | .ramping, some _ => pumpDone (raiseFault .pumpRamp s.lines.reading (pumpStop s))
  | _, _ => s

/-- RAMP_TIMER_EXPIRY (R147). -/
def execRampTimerExpiry (s : State) : Host.Outcome State Fault Refusal := .next (rampExpiry s)

/-- The band timer expires in STEADY: a dip raises PRESSURE_LOST with the lowest reading, a drift ramps again toward the
same code (R148, R149). -/
def bandExpiry (s : State) : State :=
  match s.pump.state, s.pump.band with
  | .steady, some b =>
    let s1 := s.setPump { s.pump with band := none }
    if b.dip then pumpDone (raiseFault .pressureLost b.lowest s1)
    else pumpDone (enterRamping s1.pump.code s1.pump s1)
  | _, _ => s

/-- BAND_TIMER_EXPIRY (R148, R149). -/
def execBandTimerExpiry (s : State) : Host.Outcome State Fault Refusal := .next (bandExpiry s)

/-- The standby timer expires: the ladder asks for STANDBY (R150). -/
def standbyExpiry (s : State) : State :=
  match s.pump.standbyTimer with
  | some _ => pumpDone (levelRequest ⟨.standby, 0⟩ (s.setPump { s.pump with standbyTimer := none }))
  | none => s

/-- STANDBY_TIMER_EXPIRY (R150). -/
def execStandbyTimerExpiry (s : State) : Host.Outcome State Fault Refusal := .next (standbyExpiry s)

/-- The off timer expires: the ladder asks for OFF (R151). -/
def offExpiry (s : State) : State :=
  match s.pump.offTimer with
  | some _ => pumpDone (levelRequest ⟨.off, 0⟩ (s.setPump { s.pump with offTimer := none }))
  | none => s

/-- OFF_TIMER_EXPIRY (R151). -/
def execOffTimerExpiry (s : State) : Host.Outcome State Fault Refusal := .next (offExpiry s)

end Sys2Proof.Machine
end

