-- ==== Sys2Proof/Machine/TripEvents.lean ====
section
/-! DEFINITION. Machine/TripEvents.lean: power-on reset, the trip inputs and the residency timer (R8 to R10, R25). -/

namespace Sys2Proof.Machine

open Sys2Proof

/-- The fault kind of a trip input (Table 1-5). -/
def TripInput.kind : TripInput → FaultKind
  | .estop => .estop
  | .overpressure => .overpressure
  | .catcher => .catcher

/-- A trip input at a level. -/
def setTrip (i : TripInput) (active : Bool) (l : Lines) : Lines :=
  match i with
  | .estop => { l with estop := active }
  | .overpressure => { l with overpressure := active }
  | .catcher => { l with catcher := active }

/-- POWER_ON_RESET (R25). -/
def execPowerOnReset (s : State) : Host.Outcome State Fault Refusal := .next (powerOn s)

/-- TRIP_INPUT_ACTIVE (R9, R10). -/
def execTripInputActive (i : TripInput) (s : State) : Host.Outcome State Fault Refusal :=
  .next (wrapUp (raiseTrip (TripInput.kind i) 0 (s.setLines (setTrip i true s.lines))))

/-- TRIP_INPUT_INACTIVE (R10): the trip input state changes and nothing else. -/
def execTripInputInactive (i : TripInput) (s : State) : Host.Outcome State Fault Refusal :=
  .next (s.setLines (setTrip i false s.lines))

/-- RESIDENCY_EXPIRY (R8): from now on a Clear is judged with the residency expired. -/
def execResidencyExpiry (s : State) : Host.Outcome State Fault Refusal :=
  .next (s.setJob { s.job with residency := none })

end Sys2Proof.Machine
end

