-- ==== Sys2Proof/Machine/ZoneEvents.lean ====
section
/-! DEFINITION. Machine/ZoneEvents.lean: the guard events (R160, R161) and the minute event (R166). -/

namespace Sys2Proof.Machine

open Sys2Proof

/-- A guard input at a level. -/
def setGuard (z : Zone) (isOpen : Bool) (l : Lines) : Lines :=
  match z with
  | .a => { l with guardA := isOpen }
  | .b => { l with guardB := isOpen }

/-- A guard opening in HOLD (R160): a zone in use merges its condition; another zone gets its stop, or, where the head
cannot stop before it, merges as well (R96). DESIGN CHOICE (log entry 53): in STOPPING that merge acts as one for a zone
in use does, the valve commanded closed at once and the hold stop moved nearer to the a_traverse distance (R95). -/
def guardOpensHolding (z : Zone) (s : State) : State :=
  if zoneInUse s z then raiseHold .guard (some z) .atOnce s
  else if (replanUnstoppable s).contains z && s.job.sub == some .stopping then raiseHold .guard (some z) .atOnce s
  else replan s

/-- A guard opening in RUN (R160): a zone in use raises the GUARD hold, and the planner does the rest. DESIGN CHOICE (log
entry 56): a head that already stands in MOVING at the junction, waiting for CLEAR, gets its ZONE stop here and enters
ZONE_WAIT, or the GUARD hold of R97, in the next interpolation period. -/
def guardOpensRunning (z : Zone) (s : State) : State :=
  if zoneInUse s z then raiseHold .guard (some z) .atOnce s else replan s

/-- A guard input becomes OPEN: the closed zones are derived, and a zone that is now closed acts (R157, R160). -/
def guardOpens (z : Zone) (s : State) : State :=
  let s1 := deriveClosed (s.setLines (setGuard z true s.lines))
  if s1.zone.closed z then
    match s1.job.state with
    | .run => guardOpensRunning z s1
    | .hold => guardOpensHolding z s1
    | .idle => planCore s1
    | .homing => planCore s1
    | .unconfigured | .aborting | .fault | .trip => s1
  else s1

/-- GUARD_OPEN (R160). -/
def execGuardOpen (z : Zone) (s : State) : Host.Outcome State Fault Refusal := .next (kick (done (guardOpens z s)))

/-- A guard input becomes CLOSED: the ZONE stops of a zone that the zone count provides are lifted, and a head that
waited goes on (R97, R157, R161). -/
def guardCloses (z : Zone) (s : State) : State :=
  let s1 := deriveClosed (s.setLines (setGuard z false s.lines))
  if !zoneProvided s1 z then s1
  else if s1.inRun .zoneWait then proceed (planCore s1) else replan s1

/-- GUARD_CLOSED (R161). -/
def execGuardClosed (z : Zone) (s : State) : Host.Outcome State Fault Refusal := .next (kick (done (guardCloses z s)))

/-- Accumulated jet-on time reaches a new minute, while it is being counted (R166). -/
def minuteReached (s : State) : State :=
  match s.tables.nozzle with
  | some n => if s.wearRuns then minuteRise n s else s
  | none => s

/-- MINUTE_EVENT (R166). -/
def execMinuteEvent (s : State) : Host.Outcome State Fault Refusal := .next (kick (minuteReached s))

end Sys2Proof.Machine
end

