-- ==== Sys2Proof/Machine/Dispatch.lean ====
section
/-! DEFINITION. Machine/Dispatch.lean: the meaning of each command, one arm per constructor of `Instr`. -/

namespace Sys2Proof.Machine

open Sys2Proof

def exec (i : Instr) (s : State) : Host.Outcome State Fault Refusal :=
  match i with
  | .configure tag r => Sys2Proof.Machine.execConfigure tag r s
  | .material tag r => Sys2Proof.Machine.execMaterial tag r s
  | .nozzle tag r => Sys2Proof.Machine.execNozzle tag r s
  | .template tag r => Sys2Proof.Machine.execTemplate tag r s
  | .segment tag r => Sys2Proof.Machine.execSegment tag r s
  | .place tag r => Sys2Proof.Machine.execPlace tag r s
  | .run tag => Sys2Proof.Machine.execRun tag s
  | .hold tag => Sys2Proof.Machine.execHold tag s
  | .resume tag => Sys2Proof.Machine.execResume tag s
  | .stop tag => Sys2Proof.Machine.execStop tag s
  | .clear tag => Sys2Proof.Machine.execClear tag s
  | .reference tag => Sys2Proof.Machine.execReference tag s
  | .pressure tag level slot => Sys2Proof.Machine.execPressure tag level slot s
  | .override tag percent => Sys2Proof.Machine.execOverride tag percent s
  | .query tag => Sys2Proof.Machine.execQuery tag s
  | .restart tag => Sys2Proof.Machine.execRestart tag s
  | .receivedByte b => Sys2Proof.Machine.execReceivedByte b s
  | .gapTimerExpiry => Sys2Proof.Machine.execGapTimerExpiry s
  | .transmitComplete => Sys2Proof.Machine.execTransmitComplete s
  | .powerOnReset => Sys2Proof.Machine.execPowerOnReset s
  | .tripInputActive k => Sys2Proof.Machine.execTripInputActive k s
  | .tripInputInactive k => Sys2Proof.Machine.execTripInputInactive k s
  | .residencyExpiry => Sys2Proof.Machine.execResidencyExpiry s
  | .interpolationPeriod fbX fbY homeX homeY => Sys2Proof.Machine.execInterpolationPeriod fbX fbY homeX homeY s
  | .homingTimeout => Sys2Proof.Machine.execHomingTimeout s
  | .zReachedChange z => Sys2Proof.Machine.execZReachedChange z s
  | .zTimeout => Sys2Proof.Machine.execZTimeout s
  | .driveReadyInactive a => Sys2Proof.Machine.execDriveReadyInactive a s
  | .driveReadyActive a => Sys2Proof.Machine.execDriveReadyActive a s
  | .settleTimerExpiry => Sys2Proof.Machine.execSettleTimerExpiry s
  | .leadTimerExpiry => Sys2Proof.Machine.execLeadTimerExpiry s
  | .dwellTimerExpiry => Sys2Proof.Machine.execDwellTimerExpiry s
  | .valveSwitchActive => Sys2Proof.Machine.execValveSwitchActive s
  | .valveSwitchInactive => Sys2Proof.Machine.execValveSwitchInactive s
  | .valveTimerExpiry => Sys2Proof.Machine.execValveTimerExpiry s
  | .abrasivePulse => Sys2Proof.Machine.execAbrasivePulse s
  | .abrasiveWindowExpiry => Sys2Proof.Machine.execAbrasiveWindowExpiry s
  | .pumpRunningActive => Sys2Proof.Machine.execPumpRunningActive s
  | .pumpRunningInactive => Sys2Proof.Machine.execPumpRunningInactive s
  | .startTimerExpiry => Sys2Proof.Machine.execStartTimerExpiry s
  | .transducerReading mpa => Sys2Proof.Machine.execTransducerReading mpa s
  | .rampTimerExpiry => Sys2Proof.Machine.execRampTimerExpiry s
  | .bandTimerExpiry => Sys2Proof.Machine.execBandTimerExpiry s
  | .standbyTimerExpiry => Sys2Proof.Machine.execStandbyTimerExpiry s
  | .offTimerExpiry => Sys2Proof.Machine.execOffTimerExpiry s
  | .guardOpen z => Sys2Proof.Machine.execGuardOpen z s
  | .guardClosed z => Sys2Proof.Machine.execGuardClosed z s
  | .minuteEvent => Sys2Proof.Machine.execMinuteEvent s

end Sys2Proof.Machine
end

