-- ==== Sys2Proof/Machine/Time.lean ====
section
/-! DEFINITION. Machine/Time.lean: the part's own timers (Section 0.5.5), for the step on an empty queue: one
millisecond of every timer that runs, and the expiry of one that has run out. The table has no row for a tick: this is
a DESIGN CHOICE (log entry 8). -/

namespace Sys2Proof.Machine

open Sys2Proof

/-- A timer has run out. -/
def runOut (t : Option Nat) : Bool := t == some 0

/-- The stage timer of the sequence that has run out, as its event. -/
def stageDue (s : State) : Option Instr :=
  match s.jet.seq.bind SeqRecord.timer with
  | some (.settle 0) => some .settleTimerExpiry
  | some (.lead 0) => some .leadTimerExpiry
  | some (.dwell 0) => some .dwellTimerExpiry
  | _ => none

/-- The first timer that has run out, as the event it raises. -/
def dueEvent (s : State) : Option Instr :=
  if runOut s.link.gap then some .gapTimerExpiry
  else if runOut s.job.residency then some .residencyExpiry
  else if runOut s.axis.zTimer then some .zTimeout
  else if runOut (s.axis.homing.bind Homing.timer) then some .homingTimeout
  else if (stageDue s).isSome then stageDue s
  else if runOut s.jet.window then some .abrasiveWindowExpiry
  else if runOut (s.jet.valveTimer.map Prod.fst) then some .valveTimerExpiry
  else if runOut s.pump.startTimer then some .startTimerExpiry
  else if runOut s.pump.rampTimer then some .rampTimerExpiry
  else if runOut (s.pump.band.map Band.ms) then some .bandTimerExpiry
  else if runOut s.pump.standbyTimer then some .standbyTimerExpiry
  else if runOut s.pump.offTimer then some .offTimerExpiry
  else none

/-- A running timer, one millisecond later. -/
def down (t : Option Nat) : Option Nat := t.map (· - 1)

/-- A stage timer, one millisecond later. -/
def stageDown : StageTimer → StageTimer
  | .settle ms => .settle (ms - 1)
  | .lead ms => .lead (ms - 1)
  | .dwell ms => .dwell (ms - 1)

/-- The Jet Sequencer's timers, one millisecond later. -/
def jetMs (j : Jet) : Jet :=
  { j with seq := j.seq.map (fun r => { r with timer := r.timer.map stageDown }), window := down j.window,
           valveTimer := j.valveTimer.map (fun t => (t.1 - 1, t.2)) }

/-- The Pump Manager's timers, one millisecond later. -/
def pumpMs (p : Pump) : Pump :=
  { p with startTimer := down p.startTimer, rampTimer := down p.rampTimer, standbyTimer := down p.standbyTimer,
           offTimer := down p.offTimer, band := p.band.map (fun b => { b with ms := b.ms - 1 }) }

/-- The Axis Interface's timers, one millisecond later. -/
def axisMs (a : Axis) : Axis :=
  { a with zTimer := down a.zTimer, homing := a.homing.map (fun h => { h with timer := down h.timer }) }

/-- One millisecond of every timer that runs, and of the jet-on time (R166). -/
def tick (s : State) : State :=
  let s1 := ((s.setJob { s.job with residency := down s.job.residency }).setAxis (axisMs s.axis)).setLink
    { s.link with gap := down s.link.gap }
  kick (wearMs ((s1.setJet (jetMs s1.jet)).setPump (pumpMs s1.pump)))

end Sys2Proof.Machine
end

