-- ==== Sys2Proof/Machine/Step.lean ====
section
/-! DEFINITION. Machine/Step.lean: one step: the command at the front of the queue of waiting commands, or, on an empty
queue, one millisecond of the part's own timers (log entries 1 and 8). -/

namespace Sys2Proof.Machine

open Sys2Proof

/-- What an empty queue leaves to do: the event of a timer that has run out, else one millisecond (log entry 8). -/
def idleStep (s : State) : Host.Outcome State Fault Refusal :=
  match dueEvent s with
  | some c => exec c s
  | none => .next (tick s)

/-- One step. -/
def step (s : State) : Host.Outcome State Fault Refusal :=
  match s.pending with
  | c :: rest => exec c (s.setPending rest)
  | [] => idleStep s

/-- `s` with the command that a word spells put at the front of its queue. The opcode table gives its rows no bits, so
no word spells one and `s` stands. -/
def State.withFetchWord (s : State) (nbits w : Nat) : State :=
  match decodeTableWord nbits w with
  | some c => { s with pending := c :: s.pending }
  | none => s

end Sys2Proof.Machine
end

