-- ==== Sys2Proof/Safety.lean ====
section
/-! DEFINITION. Safety.lean: what counts as a sound state of the part, and the words the statements are made of: the link
after an answer, the reply of R174, Table 1-3 and the ranges of the record tables as the manual prints them, and the
invariants every command keeps. They are written from the manual's tables and prose, apart from the meanings. -/

namespace Sys2Proof.Machine

open Sys2Proof

/-! ## Commands of a request -/

/-- The command a request is when its frame carries `tag`. -/
def Request.command (tag : Byte) : Request → Instr
  | .configure r => .configure tag r
  | .material r => .material tag r
  | .nozzle r => .nozzle tag r
  | .template r => .template tag r
  | .segment r => .segment tag r
  | .place r => .place tag r
  | .run => .run tag
  | .hold => .hold tag
  | .resume => .resume tag
  | .stop => .stop tag
  | .clear => .clear tag
  | .reference => .reference tag
  | .pressure level slot => .pressure tag level slot
  | .override percent => .override tag percent
  | .query => .query tag
  | .restart => .restart tag

/-! ## The link after a command -/

/-- The Link Port after reports are posted in order (R175), a reply has joined the Reply List (R173), and an idle
transmitter has begun the next record (R176). -/
def linkAfter (l : Link) (posted : List Report) (reply : Option Reply) : Link :=
  beginNext { l with reports := posted.foldl postInto l.reports, replies := l.replies ++ reply.toList }

/-- The reply R174 forms: tag and kind copied from the frame, and the state, substate, free slots and expected sequence
number standing in the state `t` that the request leaves. -/
def replyOver (t : State) (tag : Byte) (kind : Nat) (code : ResultCode) (detail : BitVec 16) (deferred : Bool)
    (body : ReplyBody) : Reply :=
  { tag := tag, kind := kind, code := code, detail := detail, state := t.job.state, sub := t.job.sub,
    free := 256 - t.queue.entries.length, expected := t.queue.expected, deferred := deferred, body := body }

/-- From `s` to `t` a request of `tag` and `kind` received exactly one reply, with nothing after the common part:
`detail` is the detail word a rule states, and where none does the word is the free value of log entry 2. The reports
`posted` went to the Pending Report Set on the way. -/
def Replied (s t : State) (tag : Byte) (kind : Nat) (code : ResultCode) (detail : Option Nat) (deferred : Bool)
    (posted : List Report) : Prop :=
  match detail with
  | some d =>
    t.link = linkAfter s.link posted (some (replyOver t tag kind code (BitVec.ofNat 16 d) deferred .none))
    ∧ t.freeCount = s.freeCount
  | none =>
    t.link = linkAfter s.link posted
      (some (replyOver t tag kind code (Config.unstatedDetail s.freeCount) deferred .none))
    ∧ t.freeCount = s.freeCount + 1

/-- A request answered without effect: the state is what it was but for the reply and the free-value counter (R4). -/
def Refused (s t : State) (tag : Byte) (kind : Nat) (code : ResultCode) (detail : Option Nat) : Prop :=
  Replied s t tag kind code detail false [] ∧ t = { s with link := t.link, freeCount := t.freeCount }

/-- The Zone Unit of `s` with the lamps of `t`: its closed zones are unchanged. -/
def withLampsOf (t s : State) : ZoneUnit := { s.zone with lampA := t.zone.lampA, lampB := t.zone.lampB }

/-! ## Table 1-3 -/

/-- A cell of Table 1-3: the answer it gives by itself, or none where it says T, or T with the refusals of a rule of
its own. -/
abbrev Cell := Option ResultCode

/-- The row of Table 1-3 for a request in the state `s`, columns UNCONFIGURED to TRIP. The cells that turn on more than
the controller state read `s`. -/
def table13Row (s : State) (r : Request) : List Cell :=
  let t : Cell := none
  let ws : Cell := some .wrongState
  let ne : Cell := some .noEffect
  match r with
  | .configure _ => [t, if s.queue.entries = [] then t else ws, ws, ws, ws, ws, ws, ws]
  | .material _ => [ws, t, t, t, t, t, t, ws]
  | .nozzle _ => [ws, t, t, ws, ws, ws, t, ws]
  | .template _ => [ws, t, t, t, t, t, t, ws]
  | .segment _ => [ws, t, t, t, t, ws, ws, ws]
  | .place _ => [ws, t, t, t, t, ws, ws, ws]
  | .run => [ws, t, ws, ne, ws, ws, ws, ws]
  | .hold => [ws, ne, ws, t, ne, ws, ws, ws]
  | .resume => [ws, ne, ws, ne, if s.job.sub = some .held then t else ws, ws, ws, ws]
  | .stop => [ws, t, t, t, t, ne, ne, ws]
  | .clear => [ne, ne, ne, ne, ne, ne, t, ws]
  | .reference => [ws, t, ne, ws, ws, ws, ws, ws]
  | .pressure level _ =>
    [ws, t, ws, ws, if s.job.sub = some .held then t else ws, ws, if level = 0 then t else ws, ws]
  | .override _ => [t, t, t, t, t, t, t, t]
  | .query => [t, t, t, t, t, t, t, t]
  | .restart => [t, t, t, t, t, t, t, t]

/-- The answer Table 1-3 gives a request by itself; none where the request is taken, or where a rule decides. -/
def table13 (s : State) (r : Request) : Cell := ((table13Row s r)[s.job.state.number]?).join

/-! ## Ranges -/

/-- `n` is the first field from `lo` to `hi` that is not in range. -/
def FirstOutOfRange (ok : Nat → Prop) (lo hi n : Nat) : Prop :=
  lo ≤ n ∧ n ≤ hi ∧ ¬ ok n ∧ ∀ m, lo ≤ m → m < n → ok m

/-- Every field from `lo` to `hi` is in range. -/
def AllInRange (ok : Nat → Prop) (lo hi : Nat) : Prop := ∀ n, lo ≤ n → n ≤ hi → ok n

/-- Table 1-8 with R22: field `n` of a Configure record is in range. -/
def configField (r : ConfigRec) : Nat → Prop
  | 1 => -4000000 ≤ r.xMin ∧ r.xMin ≤ 4000000
  | 2 => -4000000 ≤ r.xMax ∧ r.xMax ≤ 4000000 ∧ 500000 ≤ r.xMax - r.xMin
  | 3 => -4000000 ≤ r.yMin ∧ r.yMin ≤ 4000000
  | 4 => -4000000 ≤ r.yMax ∧ r.yMax ≤ 4000000 ∧ 500000 ≤ r.yMax - r.yMin
  | 5 => r.xMin ≤ r.homeX ∧ r.homeX ≤ r.xMax
  | 6 => r.yMin ≤ r.homeY ∧ r.homeY ≤ r.yMax
  | 7 => r.zoneCount = 1 ∨ r.zoneCount = 2
  | 8 => r.zoneCount = 2 → r.xMin < r.split ∧ r.split < r.xMax
  | 9 => 1000 ≤ r.traverseSpeed ∧ r.traverseSpeed ≤ 30000
  | 10 => 5 ≤ r.aCut ∧ r.aCut ≤ 500
  | 11 => 50 ≤ r.aTraverse ∧ r.aTraverse ≤ 3000 ∧ r.aCut ≤ r.aTraverse
  | 12 => 100 ≤ r.aEmergency ∧ r.aEmergency ≤ 5000 ∧ r.aTraverse ≤ r.aEmergency
  | 13 => r.closeAhead ≤ 5000
  | 14 => 200 ≤ r.rMin ∧ r.rMin ≤ 5000
  | 15 => 100 ≤ r.ceiling ∧ r.ceiling ≤ 600
  | 16 => 5 ≤ r.tolerance ∧ r.tolerance ≤ 30
  | 17 => 20 ≤ r.standbyPressure ∧ r.standbyPressure ≤ 100
  | 18 => 1000 ≤ r.startTimeout ∧ r.startTimeout ≤ 30000
  | 19 => 1000 ≤ r.rampTimeout ∧ r.rampTimeout ≤ 20000
  | 20 => r.standbyDelay ≤ 3600000
  | 21 => r.offDelay ≤ 3600000
  | 22 => 20 ≤ r.dipTime ∧ r.dipTime ≤ 2000
  | 23 => r.settleTime ≤ 5000
  | 24 => r.abrasiveLead ≤ 3000
  | 25 => 500 ≤ r.abrasiveWindow ∧ r.abrasiveWindow ≤ 10000
  | 26 => 50 ≤ r.valveTimeout ∧ r.valveTimeout ≤ 1000
  | 27 => 200 ≤ r.zTimeout ∧ r.zTimeout ≤ 5000
  | 28 => 5000 ≤ r.homingTimeout ∧ r.homingTimeout ≤ 120000
  | 29 => 10 ≤ r.warnLimit ∧ r.warnLimit ≤ 2000
  | 30 => r.warnLimit < r.faultLimit ∧ r.faultLimit ≤ 10000
  | 31 => 1 ≤ r.excursionThreshold ∧ r.excursionThreshold ≤ 10000
  | 32 => r.overlap ≤ 20000
  | 33 => 1000 ≤ r.backtrackLimit ∧ r.backtrackLimit ≤ 100000
  | _ => True

/-- Table 3-1: field `n` of a Material record is in range. -/
def materialField (r : MaterialReq) : Nat → Prop
  | 2 => 10 ≤ r.q1 ∧ r.q1 ≤ 20000
  | 3 => 10 ≤ r.q2 ∧ r.q2 ≤ 20000 ∧ r.q2 ≤ r.q1
  | 4 => 10 ≤ r.q3 ∧ r.q3 ≤ 20000 ∧ r.q3 ≤ r.q2
  | 5 => 10 ≤ r.q4 ∧ r.q4 ≤ 20000 ∧ r.q4 ≤ r.q3
  | 6 => 10 ≤ r.q5 ∧ r.q5 ≤ 20000 ∧ r.q5 ≤ r.q4
  | 7 => 20 ≤ r.pPierce ∧ r.pPierce ≤ 600
  | 8 => 20 ≤ r.pCut ∧ r.pCut ≤ 600 ∧ r.pPierce ≤ r.pCut
  | 9 => r.dwell ≤ 60000
  | 10 => r.method = 1 ∨ r.method = 2 ∨ r.method = 3
  | 11 => 1 ≤ r.creepSpeed ∧ r.creepSpeed ≤ 2000
  | 12 => r.rate ≤ 1000
  | 13 => r.knee ≤ 200000
  | 14 => 10 ≤ r.arcFloor ∧ r.arcFloor ≤ 100
  | 15 => 10 ≤ r.cMin ∧ r.cMin ≤ 100
  | _ => True

/-- Table 3-3: field `n` of a Nozzle record is in range. -/
def nozzleField (r : NozzleReq) : Nat → Prop
  | 1 => 200 ≤ r.k0 ∧ r.k0 ≤ 3000
  | 2 => r.growth ≤ 200
  | 3 => r.k0 ≤ r.kMax ∧ r.kMax ≤ 5000
  | 4 => r.compare ≤ 999999
  | 5 => r.used ≤ 999999
  | _ => True

/-- Table 3-4: field `n` of a Template record is in range; CW and CCW are 0 and 1, and the four pierce methods 0 to 3
(Table 11-10). -/
def templateField (r : TemplateReq) : Nat → Prop
  | 2 => 20000 ≤ r.width ∧ r.width ≤ 2000000
  | 3 => 20000 ≤ r.depth ∧ r.depth ≤ 2000000
  | 4 => r.radius ≤ min r.width r.depth / 2
  | 5 => r.leadIn ≤ 100000
  | 6 => r.bridge ≤ 50000
  | 7 => r.direction ≤ 1
  | 8 => 1 ≤ r.quality ∧ r.quality ≤ 5
  | 9 => r.material ≤ 7
  | 10 => r.method ≤ 3
  | _ => True

/-! ## Invariants -/

/-- The framer's phase, held bytes and gap timer agree (R171, R172): a length complete in HEADER is at most 96, and the
gap timer runs in every phase but HUNT. -/
def FramerSound (l : Link) : Prop :=
  (l.gap = none ↔ l.phase = .hunt)
  ∧ match l.phase with
    | .hunt => l.held = []
    | .sync => l.held = []
    | .header => l.held.length < 4 ∧ (2 ≤ l.held.length → leNat (l.held.take 2) ≤ 96)
    | .payload => leNat (l.held.take 2) ≤ 96 ∧ 4 ≤ l.held.length ∧ l.held.length < 4 + leNat (l.held.take 2)
    | .check =>
      leNat (l.held.take 2) ≤ 96 ∧ 4 + leNat (l.held.take 2) ≤ l.held.length
      ∧ l.held.length < 6 + leNat (l.held.take 2)

/-- An idle transmitter leaves nothing waiting (R176, R178). -/
def TransmitterBusy (l : Link) : Prop := l.tx = none → l.replies = [] ∧ l.reports = [] ∧ l.announces = []

/-- The Link Port's bounds (R171, R173, R175), and no record waiting beside an idle transmitter (R176, R178). -/
structure LinkSound (l : Link) : Prop where
  replies : l.replies.length ≤ 16
  errors : l.errors ≤ 65535
  kinds : (l.reports.map (fun m => m.report.kindByte)).Nodup
  superseded : ∀ m ∈ l.reports, m.superseded ≤ 255
  framer : FramerSound l
  busy : TransmitterBusy l

/-- The Segment Queue's bounds and use counts (R34, R40, R44). -/
structure QueueSound (s : State) : Prop where
  entries : s.queue.entries.length ≤ 256
  history : s.queue.history.length ≤ 32
  uses : ∀ k : Fin 8, s.queue.uses[k] = s.queue.entries.countP (fun e => e.slot == some k.val)

/-- The Wear Counter's bounds, its kerf estimate and its alarm (R59, R166 to R168). -/
structure WearSound (s : State) : Prop where
  residue : s.wear.residue < 1000
  seconds : s.wear.seconds < 60
  minutes : s.wear.minutes ≤ 999999
  saturated : s.wear.minutes = 999999 → s.wear.seconds = 0 ∧ s.wear.residue = 0
  absent : s.tables.nozzle = none →
    s.wear.minutes = 0 ∧ s.wear.seconds = 0 ∧ s.wear.residue = 0 ∧ s.wear.alarm = false ∧ s.wear.kerf = 0
  kerf : ∀ n, s.tables.nozzle = some n → s.wear.kerf = min n.kMax (n.k0 + n.growth * s.wear.minutes / 60)
  range : ∀ n, s.tables.nozzle = some n → n.k0 ≤ n.kMax
  alarm : ∀ n, s.tables.nozzle = some n → (s.wear.alarm = true ↔ 0 < n.compare ∧ n.compare ≤ s.wear.minutes)

/-- The pump's demand code and the states in which it is 0 (R142, R143, R145). -/
structure PumpSound (s : State) : Prop where
  ceiling : ∀ c, s.config = some c → s.pump.code ≤ c.ceiling / 5
  stopped : s.pump.state = .off ∨ s.pump.state = .starting → s.pump.code = 0
  unconfigured : s.job.state = .unconfigured ∨ s.config = none → s.pump.state = .off
  trip : s.job.state = .trip → s.pump.state = .off

/-- The lamp R163 gives a zone, by the first case that holds. -/
def LampRule (s : State) (z : Zone) (l : Lamp) : Prop :=
  if s.job.state = .unconfigured ∨ s.job.state = .trip ∨ (z = .b ∧ s.cfg.zoneCount ≠ 2) then l = .off
  else if s.lines.guardOpen z = true then
    if (s.job.state = .run ∧ s.job.sub = some .zoneWait
          ∧ ∃ t ∈ s.plan.stops, t.kind = .zone ∧ t.zone = some z ∧ t.pos = ((s.axis.pathPos / 60 : Nat) : Int))
        ∨ (s.job.state = .hold ∧ ∃ h, s.job.hold = some h ∧ h.zone = some z)
    then l = .attention else l = .loading
  else if zoneInUse s z = true then l = .active
  else l = .ready

/-- Both lamps are as R163 gives them. -/
def LampsSound (s : State) : Prop := LampRule s .a s.zone.lampA ∧ LampRule s .b s.zone.lampB

/-- The closed zones are those of R157. -/
def ClosedSound (s : State) : Prop :=
  (s.zone.closedA = true ↔ s.config.isSome ∧ s.lines.guardA = true)
  ∧ (s.zone.closedB = true ↔ (∃ c, s.config = some c ∧ c.zoneCount = 2) ∧ s.lines.guardB = true)

/-- The substates a controller state has (Table 1-2). -/
def substatesOf : CtrlState → List (Option Substate)
  | .run => [some .moving, some .piercing, some .backtrack, some .zoneWait, some .starved]
  | .hold => [some .stopping, some .held]
  | .unconfigured => [none]
  | .idle => [none]
  | .homing => [none]
  | .aborting => [none]
  | .fault => [none]
  | .trip => [none]

/-- What the Job Controller holds agrees with its state, and so do the blocks that act for it (R3, R5, R6, R8, R14, R20,
R24, R111, R112, R122): the substate, hold record, fault record, residency and deferred-hold flag, a sequence in
progress only in RUN/PIERCING, a reference run in HOMING, the entry the jet was opened for only while it is OPEN, and
the bounds of the override percent and the two counts. -/
structure JobSound (s : State) : Prop where
  sub : s.job.sub ∈ substatesOf s.job.state
  hold : s.job.hold.isSome ↔ s.job.state = .hold
  fault : s.job.fault.kind.isSome ↔ s.job.state = .fault ∨ s.job.state = .trip
  residency : s.job.residency.isSome → s.job.state = .fault
  unconfigured : s.job.state = .unconfigured → s.config = none
  configured : s.config = none → s.job.state = .unconfigured ∨ s.job.state = .trip
  sequence : s.jet.seq.isSome → s.job.state = .run ∧ s.job.sub = some .piercing
  stages : s.jet.state = .preparing ∨ s.jet.state = .feeding ∨ s.jet.state = .dwell ∨ s.jet.state = .ramping →
    s.jet.seq.isSome
  atRest : s.jet.state = .closed ∨ s.jet.state = .opened → s.jet.seq = none
  deferred : s.job.deferred = true →
    s.job.state = .run ∧ s.job.sub = some .piercing ∧ (s.jet.state = .dwell ∨ s.jet.state = .ramping)
  homing : s.job.state = .homing → ∃ h, s.axis.homing = some h ∧ h.ending = false
  running : ∀ h, s.axis.homing = some h → h.ending = false → s.job.state = .homing
  frozen : s.axis.frozen = true → s.axis.homing = none ∧ (s.job.state = .fault ∨ s.job.state = .trip)
  cutEntry : s.jet.cutEntry.isSome → s.jet.state = .opened
  override : 10 ≤ s.job.override ∧ s.job.override ≤ 150
  secondary : s.job.fault.secondary ≤ 65535
  excursions : s.axis.excursions ≤ 65535

/-! ## Conditions the statements name -/

/-- The head stands still, with nothing left to run out (R104). -/
def Resting (s : State) : Prop := s.axis.speed = 0 ∧ s.axis.stopRun = none ∧ s.axis.homing = none

/-- No zone is closed. -/
def BedOpen (s : State) : Prop := s.zone.closedA = false ∧ s.zone.closedB = false

/-- Every drive-ready input is active (R114). -/
def DrivesReady (l : Lines) : Prop := l.readyX = true ∧ l.readyY = true ∧ l.readyZ = true

/-- No trip input is active. -/
def NoTrip (l : Lines) : Prop := l.estop = false ∧ l.overpressure = false ∧ l.catcher = false

/-- The stopping distance of R89: the least whole number of µm over which `a` takes the speed from `v` to 0. -/
def IsStoppingDistance (v a L : Nat) : Prop :=
  v * v ≤ 72 * a * L / 10 ∧ ∀ M, v * v ≤ 72 * a * M / 10 → L ≤ M

/-- The distance to slow of R89: the least whole number of µm over which `a` takes the speed from `v` to `w`. -/
def IsSlowingDistance (v w a L : Nat) : Prop :=
  v * v - w * w ≤ 72 * a * L / 10 ∧ ∀ M, v * v - w * w ≤ 72 * a * M / 10 → L ≤ M

/-- `z` is closed to the head and the other zone is not. -/
def OnlyClosed (s : State) (z : Zone) : Prop :=
  s.zone.closed z = true ∧ ∀ y : Zone, y ≠ z → s.zone.closed y = false

/-- R131: what a close command leaves in `t` of the jet that `s` had. The state recorded with the valve timer is the one
that the commanding event leaves in force (log entry 29). -/
def CloseCommanded (s t : State) : Prop :=
  t.jet.seq = none ∧ t.jet.armed = false ∧ t.jet.window = none ∧ t.jet.rate = 0
  ∧ (s.jet.state = .dwell ∨ s.jet.state = .ramping ∨ s.jet.state = .opened →
      t.jet.state = .closing
      ∧ t.jet.valveTimer = (if s.config.isSome then some (s.cfg.valveTimeout, t.job.state) else none))
  ∧ (s.jet.state = .preparing ∨ s.jet.state = .feeding → s.lines.valveClosed = true → t.jet.state = .closed)
  ∧ (s.jet.state = .closing ∨ s.jet.state = .closed →
      t.jet.state = s.jet.state ∧ t.jet.valveTimer = s.jet.valveTimer)

/-- Where a stop lies that is placed at the stopping distance `d` from a head on its path: at that distance from the
whole micrometre reached (log entry 11), or at the nearest planned stop ahead where that is nearer (R95, R101, R110). -/
def StopLies (stops : List Stop) (pathPos d : Nat) (q : Int) : Prop :=
  ((∀ u ∈ stops, 60 * u.pos < (pathPos : Int) ∨ ((pathPos / 60 + d : Nat) : Int) ≤ u.pos) →
    q = ((pathPos / 60 + d : Nat) : Int))
  ∧ (∀ u ∈ stops, (pathPos : Int) ≤ 60 * u.pos → u.pos < ((pathPos / 60 + d : Nat) : Int) →
      (∀ w ∈ stops, (pathPos : Int) ≤ 60 * w.pos → u.pos ≤ w.pos) → q = u.pos)

/-- R91: the stop is no PIERCE or RESTART stop at which a head at `x` stands before its pierce. -/
def NotStoodAt (x : Int) (u : Stop) : Bool := !(u.pos == x && (u.kind == .pierce || u.kind == .restart))

/-- No cutting entry of length 0 lies before the head, at whose end a stop at the head's position could stand. -/
def NoZeroCut (s : State) : Prop := ∀ l, s.plan.legs.head? = some l → l.cutting = true → 0 < l.len

/-- R140: a pending recovery ends where the head stands: at a JET_OFF or END stop that lies at s_stop. -/
def RecoveryEndsHere (s : State) : Prop :=
  s.axis.speed = 0 ∧ s.axis.stopRun = none ∧ NoZeroCut s
  ∧ ∃ r u, s.jet.recovery = some r ∧ r.isPending = true ∧ contourDistance s = some r.sStop ∧ u ∈ s.plan.stops
    ∧ (u.kind = .jetOff ∨ u.kind = .segEnd) ∧ 60 * u.pos = (s.axis.pathPos : Int)

/-- R110: the stop point that an order to stop at `a` fixes, for a head that follows the plan path: none at standstill,
else at the stopping distance from the whole micrometre reached (log entry 11), or at a planned stop that lies nearer. A
head that already runs to a stop point takes the new one where that lies nearer. -/
def StopOrdered (s t : State) (a : Nat) : Prop :=
  s.axis.frozen = false → s.axis.homing = none →
    (s.axis.speed = 0 → s.axis.stopRun = none → t.axis.stopRun = none)
    ∧ (∀ d, 0 < s.axis.speed → 0 < a → IsStoppingDistance s.axis.speed a d →
        (s.axis.stopRun = none →
          ∃ r, t.axis.stopRun = some r ∧ t.axis.speed = s.axis.speed ∧ r.legs = s.plan.legs
            ∧ r.pos60 = s.axis.pathPos ∧ r.vmax = s.axis.speed ∧ r.decel = a
            ∧ StopLies s.plan.allStops s.axis.pathPos d r.at_)
        ∧ (∀ r, s.axis.stopRun = some r →
            t.axis.stopRun = some (if r.pos60 / 60 + d < r.at_ then
              { r with at_ := r.pos60 / 60 + d, decel := a, vmax := s.axis.speed } else r)))

/-- R110, R117: an axis of the reference run `g` after an order to stop at `a`. One that stands has no motion left; one
that moves comes to rest on its line, decelerating at `a`, at the stopping distance from the whole micrometre reached
(log entry 11), or where its line was to end when that is nearer. An axis that an ended run already brings to rest (log
entry 32) keeps that stop when it is nearer. -/
def AxisStops (a : Nat) (g : Homing) (h h' : AxisHoming) : Prop :=
  h'.phase = h.phase ∧ (h.run = none → h'.run = none)
  ∧ (∀ r, h.run = some r →
      (r.speed = 0 → h'.run = none)
      ∧ (∀ d, 0 < r.speed → IsStoppingDistance r.speed a d →
          (let q := r.pos60 / 60 + d
           let slowed : LineRun := { r with v0 := r.speed, vmax := r.speed, acc := a }
           (∀ n, r.len = some n → n ≤ q →
             (g.ending = false → h.phase ≠ .raising → h'.run = some slowed)
             ∧ (g.ending = true ∨ h.phase = .raising → h'.run = some r))
           ∧ ((∀ n, r.len = some n → q < n) → h'.run = some { slowed with len := some q }))))

/-- R110, R117: the reference run after an order to stop at `a`. Each axis stops on its line, and the homing state is
absent at once when neither moves. -/
def HomingStopped (s t : State) (a : Nat) : Prop :=
  s.axis.frozen = false → 0 < a → ∀ g, s.axis.homing = some g →
    ∃ x y, AxisStops a g g.x x ∧ AxisStops a g g.y y
      ∧ t.axis.homing =
          if x.run = none ∧ y.run = none then none else some { x := x, y := y, timer := none, ending := true }

/-- The speed of an axis on its line at `x` µm (R115, R116): its greatest speed, that reached from the line's start and
that from which it can stop at the line's end. -/
def speedOnLine (r : LineRun) (x : Nat) : Nat :=
  let rising := min r.vmax (Nat.sqrt (r.v0 * r.v0 + 72 * r.acc * x / 10))
  match r.len with
  | none => rising
  | some n => min rising (Nat.sqrt (72 * r.acc * (n - x) / 10))

/-- An axis after one period on its line: the step is the greater of the speeds at the whole micrometre reached and at
the next, and it does not pass the line's end; a last rest of 1 µm at which both are 0 is one step (log entry 44). -/
def movedOnLine (r : LineRun) : LineRun :=
  let v := max (speedOnLine r (r.pos60 / 60)) (speedOnLine r (r.pos60 / 60 + 1))
  let step := match r.len with
    | none => v
    | some n => if v = 0 ∧ 60 * n - r.pos60 ≤ 60 then 60 * n - r.pos60 else min v (60 * n - r.pos60)
  { r with pos60 := r.pos60 + step, speed := step }

/-- The following error of one axis (R112). -/
def errorOf (setPoint actual : Int) : Nat := (setPoint - actual).natAbs

/-- Neither axis strays from `p` by more than the warn limit, and so not by more than the fault limit above it (R112).
-/
def WithinWarn (c : ConfigRec) (p actual : Point) : Prop :=
  errorOf p.x actual.x ≤ c.warnLimit ∧ errorOf p.y actual.y ≤ c.warnLimit ∧ c.warnLimit ≤ c.faultLimit

/-- The set-point of a period that takes no step: the point at the head's progress on the first leg of the plan path; at
its very start the set-point stands (R105, R106). -/
def pointHere (s : State) : Point :=
  match s.plan.legs with
  | [] => s.axis.setPoint
  | l :: _ =>
    if s.axis.pathPos = 0 then s.axis.setPoint else (l.pointAt (s.axis.pathPos / 60)).getD s.axis.setPoint

/-- The head stands on the entry `e`: at its start point, at the end of the entry before it in the same contour, or past
its start (R31). -/
def StandsOn (s : State) (e : QueueEntry) : Prop :=
  if s.axis.pathPos = 0 then
    (e.opens = false ∧ s.jet.contour.isSome) ∨ e.shape.map Shape.start = some s.axis.setPoint
  else s.plan.approach = none

/-- Table 1-6: the cause of a recorded kind is present. -/
def CausePresent (s : State) : FaultKind → Prop
  | .following =>
    s.cfg.warnLimit < errorOf s.axis.setPoint.x s.axis.actual.x
    ∨ s.cfg.warnLimit < errorOf s.axis.setPoint.y s.axis.actual.y
  | .drive => ¬ DrivesReady s.lines
  | .pumpStart => s.pump.state ≠ .off
  | .pumpRamp => s.pump.state ≠ .off
  | .pressureLost => s.jet.state ≠ .closed
  | .zTimeout => s.lines.zReached ≠ some s.axis.zCmd
  | .homing => ¬ Resting s
  | .abrasiveRepeat => s.jet.state ≠ .closed
  | .valve => s.lines.valveClosed = false
  | .estop => s.lines.estop = true
  | .overpressure => s.lines.overpressure = true
  | .catcher => s.lines.catcher = true
  | .valveTrip => s.lines.valveClosed = false

/-- The demand code of R143 for a pressure, under the Configure record in force. -/
def demandCode (c : ConfigRec) (pressure : Nat) : Nat := min (pressure / 5) (c.ceiling / 5)

/-- The demand code of a level request (R143, R144). -/
def levelCode (c : ConfigRec) (r : LevelReq) : Nat :=
  match r.level with
  | .off => 0
  | .standby => demandCode c c.standbyPressure
  | .pierce => demandCode c r.pressure
  | .cut => demandCode c r.pressure

/-- The measured pressure is within tolerance of a demand code's pressure, 5 MPa a code (R143, R147). -/
def WithinTolerance (tolerance code reading : Nat) : Prop :=
  ((reading : Int) - 5 * code).natAbs ≤ tolerance

/-- The last reading is within tolerance of a demand code's pressure; a tolerance that a Configure has replaced judges
it until the next reading (R154). -/
def ReadingWithin (s : State) (code : Nat) : Prop :=
  WithinTolerance (s.pump.formerTolerance.getD s.cfg.tolerance) code s.lines.reading

/-- The queue after entries join it and the sequence number advances once (R33, R39, R78). -/
def Appended (q q' : SegQueue) (es : List QueueEntry) : Prop :=
  q' = { q with entries := q.entries ++ es, expected := q.expected + 1, uses := q'.uses, tailPos := q'.tailPos,
                tailCut := q'.tailCut }
  ∧ (∀ k : Fin 8, q'.uses[k] = q.uses[k] + es.countP (fun e => e.slot == some k.val))
  ∧ q'.tailPos = es.foldl (fun p e => (e.shape.map Shape.stop).or p) q.tailPos
  ∧ q'.tailCut = es.foldl (fun _ e => e.kind.cutting) q.tailCut

/-- The ordered checks of a record: `n` belongs to the first that fails. -/
def FirstFail : List (Nat × Prop) → Nat → Prop
  | [], _ => False
  | (k, ok) :: rest, n => (¬ ok ∧ n = k) ∨ (ok ∧ FirstFail rest n)

/-- Every check holds. -/
def AllHold : List (Nat × Prop) → Prop
  | [] => True
  | (_, ok) :: rest => ok ∧ AllHold rest

/-- A kind byte that names a cutting segment, LINE, ARC_CW or ARC_CCW (Table 11-10, Section 2.1). -/
def CuttingByte (k : Nat) : Prop := k = 1 ∨ k = 2 ∨ k = 3

/-- The shape of an arc record from the start point of R31; byte 3 is ARC_CCW. -/
def arcOf (s : State) (r : SegmentReq) : Shape := arcShape (r.kind == 3) (startPoint s) r.centre r.stop

/-- The field and geometry checks of a Segment record, in the order of R37 and R38, with their field numbers. -/
def segmentRules (s : State) (r : SegmentReq) : List (Nat × Prop) :=
  [(2, r.kind ≤ 4),
   (8, CuttingByte r.kind → 1 ≤ r.quality ∧ r.quality ≤ 5),
   (9, CuttingByte r.kind → ∀ m, r.method = some m → m ≤ 3),
   (3, r.kind ≠ 4 → s.cfg.xMin ≤ r.stop.x ∧ r.stop.x ≤ s.cfg.xMax),
   (4, r.kind ≠ 4 → s.cfg.yMin ≤ r.stop.y ∧ r.stop.y ≤ s.cfg.yMax),
   (3, r.kind = 1 → distance (startPoint s) r.stop ≠ 0),
   (5, r.kind = 2 ∨ r.kind = 3 → s.cfg.rMin ≤ distance (startPoint s) r.centre),
   (3, r.kind = 2 ∨ r.kind = 3 →
        ((distance r.centre r.stop : Int) - distance (startPoint s) r.centre).natAbs ≤ 5),
   (5, r.kind = 2 ∨ r.kind = 3 → s.cfg.xMin ≤ (xExtent (arcOf s r)).1 ∧ (xExtent (arcOf s r)).2 ≤ s.cfg.xMax),
   (6, r.kind = 2 ∨ r.kind = 3 → s.cfg.yMin ≤ (yExtent (arcOf s r)).1 ∧ (yExtent (arcOf s r)).2 ≤ s.cfg.yMax)]

/-- The checks of a Place record from the quarter turns on, in the order of R65, with their detail words (Table 4-2),
for the compensation and the entries of its expansion. The bed limits are those of R77: an end point, and a corner's
whole extent. -/
def placeRules (s : State) (r : PlaceReq) (c : Compensation) (es : List QueueEntry) : List (Nat × Prop) :=
  [(5, r.turns ≤ 3), (18, c.radius ≤ c.a), (19, c.radius ≤ c.b),
   (3, ∀ e ∈ es, ∀ sh, e.shape = some sh →
     s.cfg.xMin ≤ (if sh.arc.isSome then (xExtent sh).1 else sh.stop.x)
     ∧ (if sh.arc.isSome then (xExtent sh).2 else sh.stop.x) ≤ s.cfg.xMax),
   (4, ∀ e ∈ es, ∀ sh, e.shape = some sh →
     s.cfg.yMin ≤ (if sh.arc.isSome then (yExtent sh).1 else sh.stop.y)
     ∧ (if sh.arc.isSome then (yExtent sh).2 else sh.stop.y) ≤ s.cfg.yMax)]

/-- A piece of Table 4-3: its kind, end offset and arc-centre offset before rotation, and its length where the table
states one other than a quarter circle's. -/
structure LayoutPiece where
  kind : SegKind
  stop : Point
  centre : Option Point
  length : Option Int

/-- Table 4-3 for half-width `a`, half-depth `b`, radius `r`, lead-in `l` and bridge `g`. -/
def contourLayout (a b r l g : Int) : List LayoutPiece :=
  let line (x y len : Int) : LayoutPiece := ⟨.line, ⟨x, y⟩, none, some len⟩
  let corner (x y cx cy : Int) : LayoutPiece := ⟨.arcCcw, ⟨x, y⟩, some ⟨cx, cy⟩, none⟩
  [⟨.traverse, ⟨0, b - l⟩, none, none⟩, line 0 b l, line (-(a - r)) b (a - r), corner (-a) (b - r) (-(a - r)) (b - r),
   line (-a) (-(b - r)) (2 * (b - r)), corner (-(a - r)) (-b) (-(a - r)) (-(b - r)), line (a - r) (-b) (2 * (a - r)),
   corner a (-(b - r)) (a - r) (-(b - r)), line a (b - r) (2 * (b - r)), corner (a - r) b (a - r) (b - r),
   line g b (a - r - g)]

/-- The same piece of a CW template (R72). -/
def LayoutPiece.clockwise (p : LayoutPiece) : LayoutPiece :=
  { p with
    kind := if p.kind = .arcCcw then .arcCw else p.kind
    stop := ⟨-p.stop.x, p.stop.y⟩
    centre := p.centre.map (fun c => ⟨-c.x, c.y⟩) }

/-- The point on the bed of an offset from the centre after `q` quarter turns, each mapping (dx, dy) to (−dy, dx) (R75).
-/
def onBed (centre : Point) (q : Nat) (p : Point) : Point :=
  if q = 0 then ⟨centre.x + p.x, centre.y + p.y⟩
  else if q = 1 then ⟨centre.x - p.y, centre.y + p.x⟩
  else if q = 2 then ⟨centre.x - p.x, centre.y - p.y⟩
  else ⟨centre.x + p.y, centre.y - p.x⟩

/-- The kind, end point and arc centre of each entry a Place expands to: the pieces of Table 4-3 but for the lines of
length 0 (R74), mirrored for CW (R72) and rotated (R75). -/
def placedLayout (d : Direction) (c : Compensation) (centre : Point) (q : Nat) : List (SegKind × Point × Option Point) :=
  ((contourLayout c.a c.b c.radius c.leadIn c.bridge).filter (fun p => p.length != some 0)).map (fun p =>
    let p := if d = .cw then p.clockwise else p
    (p.kind, onBed centre q p.stop, p.centre.map (onBed centre q)))

/-- The segment speed limit of a cutting entry at an override percent (R83, R84). -/
def segmentLimit (m : MaterialRec) (percent quality : Nat) (shape : Option Shape) : Nat :=
  let speed := if quality = 1 then m.q1 else if quality = 2 then m.q2 else if quality = 3 then m.q3
    else if quality = 4 then m.q4 else m.q5
  let v := speed * percent / 100
  match shape.bind Shape.arc with
  | none => max 1 v
  | some a =>
    if m.knee = 0 ∨ m.knee ≤ a.radius then max 1 v
    else max 1 (min v (max (v * a.radius / m.knee) (speed * m.arcFloor / 100)))

/-! ## The plan (R82 to R90) -/

/-- The deceleration and acceleration of a leg (R88, R90). -/
def legAcceleration (c : ConfigRec) (l : Leg) : Nat :=
  if l.cutting = true ∨ l.kind = .backtrack then c.aCut else c.aTraverse

/-- The position at which leg `i` of a plan path begins. -/
def legStart (legs : List Leg) (i : Nat) : Int := (((legs.take i).map Leg.len).sum : Nat)

/-- No stop of the plan stands at or ahead of `x` and short of `q`. -/
def NoStopBefore (p : Plan) (x q : Int) : Prop := ∀ u ∈ p.allStops, x ≤ u.pos → q ≤ u.pos

/-- Position `q` lies up to the transition point of the plan (R93). -/
def UpToTransition (p : Plan) (q : Int) : Prop := ∃ u, p.transition = some u ∧ q ≤ u.pos

/-- R89, R90: speed `v` at the whole micrometre `x`, on leg `l` of the plan path, exceeds no limit and no bound there:
the segment limit, the creep limit, the backward bounds of the next stop and of the junctions up to it, that of the
transition point, and the forward bounds from the points behind. Up to a transition point the former limits stand (R93;
log entry 16), and the speed rises from junctions and stops behind as from the head (log entry 10). -/
structure MeetsEveryBound (c : ConfigRec) (p : Plan) (l : Leg) (x : Int) (v : Nat) : Prop where
  limit : (UpToTransition p (x + 1) → v ≤ l.former) ∧ (¬ UpToTransition p (x + 1) → v ≤ l.limit)
  creep : ∀ k, p.creep = some k → x ≤ k.stop → v ≤ k.limit
  stop : ∀ u ∈ p.allStops, x ≤ u.pos → NoStopBefore p x u.pos → v * v ≤ 72 * u.decel * (u.pos - x).toNat / 10
  transition : ∀ u, p.transition = some u → x ≤ u.pos →
    v * v ≤ u.after * u.after + 72 * legAcceleration c l * (u.pos - x).toNat / 10
  junction : ∀ i a, p.legs[i]? = some a → i + 1 < p.legs.length →
    (let q := legStart p.legs (i + 1)
     ∀ j, (UpToTransition p q → j = a.formerJunction) → (¬ UpToTransition p q → j = a.junction) →
      (x ≤ q → NoStopBefore p x q → v * v ≤ j * j + 72 * legAcceleration c a * (q - x).toNat / 10)
      ∧ (q < x → v * v ≤ j * j + 72 * legAcceleration c l * (x - q).toNat / 10))
  anchors : ∀ a ∈ p.anchors, a.pos ≤ x → v * v ≤ a.speed * a.speed + 72 * legAcceleration c l * (x - a.pos).toNat / 10
  behind : ∀ u ∈ p.allStops, u.pos < x → v * v ≤ 72 * legAcceleration c l * (x - u.pos).toNat / 10

/-- Table 5-2: the corner factor for deflection `δ` and corner floor `cMin`. -/
def cornerPercent (cMin δ : Nat) : Nat :=
  if δ ≤ 50 then 100 else if δ ≤ 949 then 100 - (100 - cMin) * (δ - 50) / 900 else cMin

/-- R82, R83 to R87: the plan path over a queue with no approach and no Recovery Path ahead of it: a leg for each entry,
with its segment limit, and between two entries the junction limit. -/
structure PlannedOverQueue (s : State) (legs : List Leg) : Prop where
  length : legs.length = s.queue.entries.length
  leg : ∀ (i : Nat) (e : QueueEntry) (l : Leg), s.queue.entries[i]? = some e → legs[i]? = some l →
    l.shape = e.shape ∧ l.len = (e.shape.map Shape.length).getD 0 ∧ l.cutting = e.kind.cutting
    ∧ (l.isEnd = true ↔ e.kind = .segEnd)
    ∧ (e.kind = .traverse → l.limit = s.cfg.traverseSpeed)
    ∧ (∀ m k, e.kind.cutting = true → s.entryMaterial e = some m → e.quality = some k → 1 ≤ k → k ≤ 5 →
        l.limit = segmentLimit m s.job.override k e.shape)
  junction : ∀ (i : Nat) (e f : QueueEntry) (a b : Leg), s.queue.entries[i]? = some e →
    s.queue.entries[i + 1]? = some f → legs[i]? = some a → legs[i + 1]? = some b →
    (let δ := deflection (e.shape.bind exitTangent) (f.shape.bind entryTangent)
     (δ = none → a.junction = 0)
     ∧ (∀ d m, δ = some d → e.kind.cutting = true → f.kind.cutting = true → s.entryMaterial f = some m →
         a.junction = min a.limit b.limit * cornerPercent m.cMin d / 100)
     ∧ (∀ d, δ = some d → e.kind = .traverse → f.kind = .traverse →
         a.junction = if d ≤ 50 then s.cfg.traverseSpeed else 0))

/-- R86: the deflection of two tangents that go straight on, turn a right angle or turn back, and the tangents: a line's
from its start to its end, an arc's square to the radius and in its direction, none at length 0. -/
def DeflectionRule : Prop :=
  (∀ v w : Vec, normSq v ≠ 0 → normSq w ≠ 0 →
    (cross v w = 0 → 0 < dot v w → deflection (some v) (some w) = some 0)
    ∧ (dot v w = 0 → deflection (some v) (some w) = some 900)
    ∧ (cross v w = 0 → dot v w < 0 → deflection (some v) (some w) = some 1800))
  ∧ (∀ sh : Shape,
    (sh.length = 0 → entryTangent sh = none ∧ exitTangent sh = none)
    ∧ (0 < sh.length → sh.arc = none →
        entryTangent sh = some ⟨sh.stop.x - sh.start.x, sh.stop.y - sh.start.y⟩ ∧ exitTangent sh = entryTangent sh)
    ∧ (∀ a : ArcGeom, 0 < sh.length → sh.arc = some a →
        (let square (p : Point) : Vec :=
           if a.ccw = true then ⟨a.centre.y - p.y, p.x - a.centre.x⟩ else ⟨p.y - a.centre.y, a.centre.x - p.x⟩
         entryTangent sh = some (square sh.start) ∧ exitTangent sh = some (square sh.stop))))

/-! ## Recovery (R46, R47) -/

/-- `run` is the unbroken run of cutting entries with which the history ends (R46). -/
def LastRun (history run : List HistEntry) : Prop :=
  ∃ older, history = older ++ run ∧ (∀ h ∈ run, h.kind.cutting = true)
    ∧ (∀ h, older.getLast? = some h → h.kind.cutting = false)

/-- `run` holds the history entries of the current contour, for the cutting executing entry `e` (R46). -/
def ContourRun (s : State) (e : QueueEntry) (run : List HistEntry) : Prop :=
  (e.opens = true → run = []) ∧ (e.opens = false → LastRun s.queue.history run)

/-- R46: the contour floor, for those history entries and the contour start of the executing entry: the contour start of
the oldest of them. -/
def floorOf (run : List HistEntry) (start : Nat) : Nat :=
  match run with
  | [] => start
  | h :: _ => (h.contour.map Prod.fst).getD 0

/-- R47: the partial entry that a source with contour start `from_` gives the stretch from `sR` to `sStop`, if it overlaps
it over a length above 0. -/
def pieceOf (seq : SeqNo) (pidx : Option Nat) (shape : Shape) (from_ limit pPierce pCut rate sR sStop : Nat) :
    List Partial :=
  let lo := max sR from_
  let hi := min sStop (from_ + shape.length)
  if hi ≤ lo then []
  else [{
    seq := seq, pidx := pidx, cStart := lo, cEnd := hi, limit := limit, pPierce := pPierce, pCut := pCut, rate := rate
    shape := {
      start := pointAt shape (lo - from_), stop := pointAt shape (hi - from_), length := hi - lo
      arc := shape.arc.map (fun a => { a with sweep := if a.radius = 0 then 0 else (hi - lo) * unit / a.radius }) } }]

/-- R47: the Recovery Path from `sR` to `sStop`: a piece of each history entry of the contour in order, and then of the
executing entry, which carries its segment limit. -/
def recoveryPieces (s : State) (e : QueueEntry) (m : MaterialRec) (k : Nat) (shape : Shape) (run : List HistEntry)
    (start sR sStop : Nat) : List Partial :=
  (run.map (fun h => match h.contour with
    | none => []
    | some r =>
      pieceOf h.seq h.pidx h.shape r.1 (h.limit.getD 0) ((h.pressures.map Prod.fst).getD 0)
        ((h.pressures.map Prod.snd).getD 0) (h.rate.getD 0) sR sStop)).flatten
  ++ pieceOf e.seq e.pidx shape start (segmentLimit m s.job.override k (some shape)) m.pPierce m.pCut m.rate sR sStop

/-- The contour ranges of the run join one another and end at `start`, with each entry's length (R44). -/
def RunJoins (start : Nat) : List HistEntry → Prop
  | [] => True
  | h :: rest =>
    h.contour = some ((h.contour.map Prod.fst).getD 0, (h.contour.map Prod.fst).getD 0 + h.shape.length)
    ∧ (h.contour.map Prod.fst).getD 0 + h.shape.length = floorOf rest start ∧ RunJoins start rest

/-! ## Requests and entries -/

/-- Table 11-3: the payload length of a request kind; none for a kind that names no request. -/
def requestLength (kind : Nat) : Option Nat :=
  if kind = 1 then some 85 else if kind = 2 then some 28 else if kind = 3 then some 13 else if kind = 4 then some 23
  else if kind = 5 then some 25 else if kind = 6 then some 16 else if 7 ≤ kind ∧ kind ≤ 12 then some 0
  else if kind = 13 ∨ kind = 14 then some 2 else if kind = 15 ∨ kind = 16 then some 0 else none

/-- The queue entry `e` that the Segment record `r` gives (R29, R30, R35, Table 2-3), with the pierce method field of a
cutting segment as sent. -/
structure Resolved (s : State) (r : SegmentReq) (e : QueueEntry) : Prop where
  seq : e.seq = r.seq
  pidx : e.pidx = none
  report : e.report = r.report
  tag : e.tag = r.tag
  kind : e.kind = if r.kind = 0 then .traverse else if r.kind = 1 then .line else if r.kind = 2 then .arcCw
    else if r.kind = 3 then .arcCcw else .segEnd
  cutting : CuttingByte r.kind → e.slot = some r.slot ∧ e.quality = some r.quality
  plain : ¬ CuttingByte r.kind → e.slot = none ∧ e.quality = none ∧ e.method = none
  sent : CuttingByte r.kind → e.sent = (match r.method with
    | none => none
    | some 0 => some none
    | some 1 => some (some .stationary)
    | some 2 => some (some .moving)
    | some _ => some (some .drilled))
  opens : e.opens = true ↔ CuttingByte r.kind ∧ s.queue.tailCut = false
  method : e.opens = true → ∀ m, s.material r.slot = some m →
    e.method = some (if r.method = some 1 then .stationary else if r.method = some 2 then .moving
      else if r.method = some 3 then .drilled else m.method)
  unshaped : r.kind = 4 → e.shape = none
  shape : r.kind ≠ 4 → ∃ sh, e.shape = some sh ∧ sh.start = startPoint s ∧ sh.stop = r.stop
    ∧ (r.kind ≤ 1 → sh.arc = none ∧ sh.length = distance sh.start sh.stop)
    ∧ (2 ≤ r.kind → sh = arcOf s r)

/-! ## Time -/

/-- What is left of a timer one millisecond later. -/
def oneLess (t : Option Nat) : Option Nat := t.map (fun ms => ms - 1)

/-- The part's own timers, in the order in which those that have run out act, each with its event (log entry 8). -/
def ownTimers (s : State) : List (Option Nat × Instr) :=
  [(s.link.gap, .gapTimerExpiry), (s.job.residency, .residencyExpiry), (s.axis.zTimer, .zTimeout),
   (s.axis.homing.bind Homing.timer, .homingTimeout),
   (match s.jet.seq.bind SeqRecord.timer with
    | some (.settle ms) => (some ms, .settleTimerExpiry)
    | some (.lead ms) => (some ms, .leadTimerExpiry)
    | some (.dwell ms) => (some ms, .dwellTimerExpiry)
    | none => (none, .settleTimerExpiry)),
   (s.jet.window, .abrasiveWindowExpiry), (s.jet.valveTimer.map Prod.fst, .valveTimerExpiry),
   (s.pump.startTimer, .startTimerExpiry), (s.pump.rampTimer, .rampTimerExpiry),
   (s.pump.band.map Band.ms, .bandTimerExpiry), (s.pump.standbyTimer, .standbyTimerExpiry),
   (s.pump.offTimer, .offTimerExpiry)]

/-- The state as it stands with an empty queue of commands, a millisecond later, but for the jet-on time and what the
link then begins (R8, R107, R115, R120, R123 to R125, R135, R146 to R151, R172). -/
def millisecondLater (s : State) : State :=
  { s with
    job := { s.job with residency := oneLess s.job.residency }
    axis := { s.axis with
      zTimer := oneLess s.axis.zTimer
      homing := s.axis.homing.map (fun h => { h with timer := oneLess h.timer }) }
    jet := { s.jet with
      seq := s.jet.seq.map (fun q => { q with timer := q.timer.map (fun
        | .settle ms => .settle (ms - 1)
        | .lead ms => .lead (ms - 1)
        | .dwell ms => .dwell (ms - 1)) })
      window := oneLess s.jet.window
      valveTimer := s.jet.valveTimer.map (fun v => (v.1 - 1, v.2)) }
    pump := { s.pump with
      startTimer := oneLess s.pump.startTimer, rampTimer := oneLess s.pump.rampTimer
      standbyTimer := oneLess s.pump.standbyTimer, offTimer := oneLess s.pump.offTimer
      band := s.pump.band.map (fun b => { b with ms := b.ms - 1 }) }
    link := { s.link with gap := oneLess s.link.gap } }

/-- The bytes arrive one after another, each a RECEIVED_BYTE command. -/
def feed : List Byte → State → Host.Outcome State Fault Refusal
  | [], s => .next s
  | b :: bs, s =>
    match exec (.receivedByte b) s with
    | .next t => feed bs t
    | .fault f => .fault f
    | .refused r => .refused r

end Sys2Proof.Machine
end

