-- ==== Sys2Proof/Certificates/Slice0/Obligations.lean ====
section
/-! DEFINITION. Certificates/Slice0/Obligations.lean: the statements for the provers. Each docstring names the rules it
states; where a clause rests on a choice of the model it names the log entry. -/

open Sys2Proof Sys2Proof.Machine

/-! ## The queue of commands and the resets -/

/-- A step. The queue of waiting commands is first in, first out: a step takes the command at the front and runs it with
the queue's rest (log entry 1). With the queue empty the part's own time passes (log entry 8): a timer that has run out
acts, the first of them in the order of that entry; with none run out, every timer that runs is lowered by 1 ms and,
while the valve is read as open, a Nozzle record is present and the count is below 999,999, the jet-on time rises by 1
ms, its seconds and minutes following (R166). -/
def Obligations.StepRunsFrontCommand : Prop :=
  (∀ (c : Instr) (rest : List Instr) (s : State), s.pending = c :: rest → step s = exec c { s with pending := rest })
  ∧ (∀ s : State, s.pending = [] →
      (∀ (i : Nat) (c : Instr), (ownTimers s)[i]? = some (some 0, c) →
          (∀ j, j < i → ((ownTimers s)[j]?).map Prod.fst ≠ some (some 0)) → step s = exec c s)
      ∧ ((∀ p ∈ ownTimers s, p.1 ≠ some 0) →
          (s.wear.timing = false ∨ s.tables.nozzle = none ∨ 999999 ≤ s.wear.minutes →
            step s = .next { millisecondLater s with link := beginNext (millisecondLater s).link })
          ∧ (∀ n, s.wear.timing = true → s.tables.nozzle = some n → s.wear.minutes < 999999 →
            (s.wear.residue + 1 < 1000 →
              step s = .next { millisecondLater s with
                wear := { s.wear with residue := s.wear.residue + 1 }
                link := beginNext (millisecondLater s).link })
            ∧ (1000 ≤ s.wear.residue + 1 → s.wear.seconds + 1 < 60 →
              step s = .next { millisecondLater s with
                wear := { s.wear with residue := 0, seconds := s.wear.seconds + 1 }
                link := beginNext (millisecondLater s).link })
            ∧ (1000 ≤ s.wear.residue + 1 → 60 ≤ s.wear.seconds + 1 →
              ∃ t, step s = .next t ∧ t = { millisecondLater s with wear := t.wear, link := t.link }
                ∧ t.wear.minutes = s.wear.minutes + 1 ∧ t.wear.seconds = 0 ∧ t.wear.residue = 0
                ∧ t.wear.kerf = min n.kMax (n.k0 + n.growth * (s.wear.minutes + 1) / 60)))))

/-- The state right after power-on reset holds the values of Table 1-9 and of the blocks' own tables (R25, R30, R49,
R81, R102, R120, R153, R165). -/
def Obligations.ResetHoldsTheManualsValues : Prop :=
  let s := State.reset
  s.job.state = .unconfigured ∧ s.job.sub = none ∧ s.job.hold = none ∧ s.job.deferred = false
  ∧ s.job.fault = { kind := none, detail := 0, secondary := 0 } ∧ s.job.residency = none ∧ s.job.override = 100
  ∧ s.job.referenced = false ∧ s.config = none
  ∧ (∀ k : Fin 8, s.tables.materials[k] = none) ∧ (∀ k : Fin 16, s.tables.templates[k] = none)
  ∧ s.tables.nozzle = none
  ∧ s.queue.entries = [] ∧ s.queue.expected = 0 ∧ (∀ k : Fin 8, s.queue.uses[k] = 0) ∧ s.queue.tailPos = none
  ∧ s.queue.tailCut = false ∧ s.queue.progress = 0 ∧ s.queue.history = [] ∧ s.queue.recPath = []
  ∧ s.plan.legs = [] ∧ s.plan.stops = [] ∧ s.plan.holdStop = none ∧ s.plan.transition = none ∧ s.plan.creep = none
  ∧ s.plan.closePoint = none ∧ s.zone.closedA = false ∧ s.zone.closedB = false
  ∧ s.axis.speed = 0 ∧ s.axis.stopRun = none ∧ s.axis.frozen = false ∧ s.axis.zCmd = .clear ∧ s.axis.zTimer = none
  ∧ s.axis.excursions = 0 ∧ s.axis.threshold = false ∧ s.axis.homing = none
  ∧ s.jet.seq = none ∧ s.jet.incomplete = false ∧ s.jet.contour = none ∧ s.jet.armed = false ∧ s.jet.window = none
  ∧ s.jet.lastPulse = none ∧ s.jet.recovery = none ∧ s.jet.valveTimer = none
  ∧ s.pump.state = .off ∧ s.pump.target.level = .off ∧ s.pump.current = .off ∧ s.pump.code = 0 ∧ s.pump.latch = none
  ∧ s.pump.startTimer = none ∧ s.pump.rampTimer = none ∧ s.pump.standbyTimer = none ∧ s.pump.offTimer = none
  ∧ s.pump.band = none
  ∧ s.zone.lampA = .off ∧ s.zone.lampB = .off
  ∧ s.wear.minutes = 0 ∧ s.wear.seconds = 0 ∧ s.wear.residue = 0 ∧ s.wear.alarm = false ∧ s.wear.kerf = 0
  ∧ s.link.phase = .hunt ∧ s.link.replies = [] ∧ s.link.reports = [] ∧ s.link.errors = 0

/-- POWER_ON_RESET (R25, R27, R178): whatever stood before, the part is as `State.reset` for the levels of its lines,
with the Announce record already being sent (log entry 18) and, inside `State.reset`, the values that no rule states for
an idle timer, counter or record (log entry 35); a trip input that is active then takes it to TRIP with the first of
them in the order of Table 1-5 (log entry 25) and the others counted (R6, R10). The jet is CLOSED or CLOSING by the
valve switch (R120). -/
def Obligations.PowerOnResetClearsThePart : Prop :=
  ∀ (s : State),
    (NoTrip s.lines →
      exec .powerOnReset s = .next { State.reset with
        lines := s.lines
        axis := { State.reset.axis with
          setPoint := s.lines.feedback, actual := s.lines.feedback
          zConfirmed := decide (s.lines.zReached = some .clear) }
        jet := { State.reset.jet with state := if s.lines.valveClosed = true then .closed else .closing }
        wear := { State.reset.wear with timing := !s.lines.valveClosed }
        freeCount := s.freeCount, pending := s.pending })
    ∧ (¬ NoTrip s.lines →
      ∃ t, exec .powerOnReset s = .next t
        ∧ t.job = { State.reset.job with
            state := .trip
            fault := {
              kind := some (if s.lines.estop = true then .estop
                else if s.lines.overpressure = true then .overpressure else .catcher)
              detail := 0
              secondary := s.lines.estop.toNat + s.lines.overpressure.toNat + s.lines.catcher.toNat - 1 } }
        ∧ t.link.tx = State.reset.link.tx ∧ t.config = none ∧ t.tables = State.reset.tables
        ∧ t.pump.state = .off ∧ t.pump.code = 0 ∧ t.queue.entries = [] ∧ t.pending = s.pending)

/-! ## What every step keeps -/

/-- The Link Port keeps its bounds over every step: at most 16 replies, at most one report of each kind with a
superseded count to 255, a link error count to 65,535, a framer whose phase, held bytes and gap timer agree, and no
record waiting beside an idle transmitter (R171 to R173, R175, R176, R178). -/
def Obligations.LinkBoundsKept : Prop :=
  ∀ (s t : State), LinkSound s.link → step s = .next t → LinkSound t.link

/-- Over every step the queue holds at most 256 entries (R34), the history at most 32 (R44), and each material slot's
use count equals the number of entries that name it (R40). -/
def Obligations.QueueBoundsAndUseCountsKept : Prop :=
  ∀ (s t : State), QueueSound s → step s = .next t → QueueSound t

/-- Over every step the jet-on time keeps its bounds and saturation, the kerf estimate is the formula of R167 on the
minutes and 0 with no Nozzle record (R59), and the alarm stands exactly when a compare value above 0 has been reached
(R57, R168). -/
def Obligations.WearCountKept : Prop :=
  ∀ (s t : State), WearSound s → step s = .next t → WearSound t

/-- Over every step the pump demand code stays at or below the ceiling code and is 0 in TRIP and in UNCONFIGURED, the
pump being OFF there, and in OFF and STARTING (R143). The premise on the controller is a statement of its own. -/
def Obligations.PumpDemandKept : Prop :=
  ∀ (s t : State), JobSound s → PumpSound s → step s = .next t → PumpSound t

/-- After every step both lamps are as R163 gives them, the zones in use being those of R159 as the model reads when the
head has begun an entry (log entry 21), and the closed zones are as R157 gives them. -/
def Obligations.LampsAndClosedZonesKept : Prop :=
  ∀ (s t : State), LampsSound s → ClosedSound s → step s = .next t → LampsSound t ∧ ClosedSound t

/-- Over every step what the Job Controller holds agrees with its state: the substates of Table 1-2, the hold record in
HOLD alone, the fault record's kind in FAULT and TRIP alone, the residency in FAULT, a Configure record in force outside
UNCONFIGURED and a TRIP entered from it, a sequence in progress in RUN/PIERCING alone, a hold deferred only while a
sequence has the valve open, a reference run in HOMING alone, the entry the jet was opened for only while it is OPEN,
and the override percent, the secondary count and the excursion count within their bounds (R3, R5, R6, R8, R14, R20,
R24, R111, R112, R122). -/
def Obligations.ControllerRecordsKept : Prop :=
  ∀ (s t : State), JobSound s → step s = .next t → JobSound t

/-- The invariants hold at reset. -/
def Obligations.InvariantsHoldAtReset : Prop :=
  LinkSound State.reset.link ∧ QueueSound State.reset ∧ WearSound State.reset
  ∧ PumpSound State.reset ∧ LampsSound State.reset ∧ ClosedSound State.reset ∧ JobSound State.reset

/-- A part in TRIP stays in TRIP until a Restart or a power-on reset: no other command leaves it (R5, R10). A received
byte is left out because it may complete a Restart frame. -/
def Obligations.TripIsLeftOnlyByReset : Prop :=
  ∀ (c : Instr) (s t : State), JobSound s → s.job.state = .trip →
    (∀ tag, c ≠ .restart tag) → c ≠ .powerOnReset → (∀ b, c ≠ .receivedByte b) →
    exec c s = .next t → t.job.state = .trip ∧ t.job.fault.kind = s.job.fault.kind

/-- No command but a definition request, a frame's last byte or the power-on reset changes the tables, and none but
Configure and those the Configure record in force (R23, R49, R63). -/
def Obligations.DefinitionsChangeOnlyByTheirRequests : Prop :=
  ∀ (c : Instr) (s t : State), (∀ b, c ≠ .receivedByte b) → c ≠ .powerOnReset → exec c s = .next t →
    ((∀ tag r, c ≠ .material tag r) → (∀ tag r, c ≠ .nozzle tag r) → (∀ tag r, c ≠ .template tag r) →
        t.tables = s.tables)
    ∧ ((∀ tag r, c ≠ .configure tag r) → t.config = s.config)

/-! ## Frames -/

/-- The payload of every request whose fields fit has the length Table 11-3 gives its kind and reads back as the request
(R173, Tables 11-8 and 11-9). -/
def Obligations.PayloadReadsBack : Prop :=
  ∀ r : Request, r.wellFormed = true →
    payloadLength r.kindByte = some (encodeRequest r).length ∧ parseRequest r.kindByte (encodeRequest r) = some r

/-- A request sent as a frame, byte by byte from HUNT, is the command it spells: preamble, length, kind, tag, payload
and CRC bring the framer through its phases and back to HUNT, and the last byte does what the command does (R170, R172,
R173). The premise on the transmitter is part of an invariant with a statement of its own. -/
def Obligations.FrameIsItsCommand : Prop :=
  ∀ (r : Request) (tag : Byte) (s : State), r.wellFormed = true →
    s.link.phase = .hunt → s.link.held = [] → s.link.gap = none → TransmitterBusy s.link →
    feed (frameBytes r.kindByte tag (encodeRequest r)) s = exec (Request.command tag r) s

/-- RECEIVED_BYTE and GAP_TIMER_EXPIRY, by the phase (R172): what a byte does in HUNT, SYNC, HEADER, PAYLOAD and CHECK,
a length above 96 and a CRC that differs discarding the frame with one link error, and the gap timer's 5 ms from each
byte. GAP_TIMER_EXPIRY with the gap timer stopped changes nothing: the model's choice (log entry 8). The byte that
completes a frame with a matching CRC (R173): with 16 replies waiting the frame is discarded with one link error; a kind
that names no request is refused with UNKNOWN_KIND and the kind, and a length other than that of Table 11-3 with
BAD_LENGTH and the length required, nothing else changing. A frame of the right length is another statement's. -/
def Obligations.FramerFollowsItsPhases : Prop :=
  ∀ (b : Byte) (s : State),
    (let go (p : Phase) (held : List Byte) : State :=
       { s with link := beginNext { s.link with phase := p, held := held, gap := some 5 } }
     let back : State := { s with link := beginNext { s.link with phase := .hunt, held := [], gap := none } }
     let drop : State :=
       { s with link := beginNext { s.link with
           phase := .hunt, held := [], gap := none, errors := min 65535 (s.link.errors + 1) } }
     let held := s.link.held ++ [b]
     let n := leNat (held.take 2)
     (s.link.phase = .hunt → exec (.receivedByte b) s =
        .next (if b = 0xC3#8 then go .sync [] else { s with link := beginNext s.link }))
     ∧ (s.link.phase = .sync → exec (.receivedByte b) s =
        .next (if b = 0x5A#8 then go .header [] else if b = 0xC3#8 then go .sync [] else back))
     ∧ (s.link.phase = .header → s.link.held.length < 4 → exec (.receivedByte b) s =
        .next (if held.length = 2 ∧ 96 < n then drop
          else if held.length < 4 then go .header held
          else if n = 0 then go .check held else go .payload held))
     ∧ (s.link.phase = .payload → exec (.receivedByte b) s =
        .next (if held.length < 4 + n then go .payload held else go .check held))
     ∧ (s.link.phase = .check → held.length < 6 + n → exec (.receivedByte b) s = .next (go .check held))
     ∧ (s.link.phase = .check → held.length = 6 + n →
          leNat (held.drop (4 + n)) ≠ (crc (held.take (4 + n))).toNat → exec (.receivedByte b) s = .next drop)
     ∧ (s.link.phase = .check → held.length = 6 + n →
          leNat (held.drop (4 + n)) = (crc (held.take (4 + n))).toNat →
         (let kind := (held.getD 2 0).toNat
          let tag := held.getD 3 0
          let completed : State := { s with link := { s.link with phase := .hunt, held := [], gap := none } }
          (16 ≤ s.link.replies.length → exec (.receivedByte b) s = .next drop)
          ∧ (s.link.replies.length < 16 →
            (requestLength kind = none →
              ∃ t, exec (.receivedByte b) s = .next t ∧ Refused completed t tag kind .unknownKind (some kind))
            ∧ (∀ m, requestLength kind = some m → n ≠ m →
              ∃ t, exec (.receivedByte b) s = .next t ∧ Refused completed t tag kind .badLength (some m)))))
     ∧ (s.link.gap = none → exec .gapTimerExpiry s = .next s)
     ∧ (s.link.gap.isSome → s.link.phase = .sync →
          exec .gapTimerExpiry s = .next { s with link := { s.link with phase := .hunt, held := [], gap := none } })
     ∧ (s.link.gap.isSome → s.link.phase = .header ∨ s.link.phase = .payload ∨ s.link.phase = .check →
          exec .gapTimerExpiry s = .next { s with link := { s.link with
            phase := .hunt, held := [], gap := none, errors := min 65535 (s.link.errors + 1) } }))

/-- TRANSMIT_COMPLETE (R171, R176, R178): the transmitter keeps the class of the record it finished and begins the next:
after a reply, or with no reply waiting, the oldest report; otherwise the reply at the head of the list. A waiting
Announce record goes when the replies ahead of it have gone, and no report goes before it (log entry 18). -/
def Obligations.TransmitCompleteBeginsTheNextRecord : Prop :=
  ∀ (s : State) (x : TxRecord), s.link.tx = some x →
    ∃ t, exec .transmitComplete s = .next t ∧ t = { s with link := t.link }
      ∧ t.link.lastClass = (match x with
          | .reply _ => some .reply
          | .report _ => some .report
          | .announce _ => s.link.lastClass)
      ∧ (s.link.announces = [] →
          (∀ m ms, s.link.reports = m :: ms → t.link.lastClass = some .reply ∨ s.link.replies = [] →
            t.link = { s.link with tx := some (.report m), reports := ms, lastClass := t.link.lastClass })
          ∧ (∀ r rs, s.link.replies = r :: rs → t.link.lastClass ≠ some .reply ∨ s.link.reports = [] →
            t.link = { s.link with tx := some (.reply r), replies := rs, lastClass := t.link.lastClass })
          ∧ (s.link.replies = [] → s.link.reports = [] →
            t.link = { s.link with tx := none, lastClass := t.link.lastClass }))
      ∧ (∀ a as, s.link.announces = a :: as →
          (a.ahead = 0 →
            t.link = { s.link with tx := some (.announce a), announces := as, lastClass := t.link.lastClass })
          ∧ (∀ r rs, s.link.replies = r :: rs → a.ahead ≠ 0 →
            t.link.tx = some (.reply r) ∧ t.link.replies = rs ∧ t.link.reports = s.link.reports))

/-! ## Answers by Table 1-3 -/

/-- Where Table 1-3 answers by itself, WRONG_STATE or NO_EFFECT, the request leaves every piece of state as it was, and
its one reply carries that code (R4, R173). No rule states the detail word of these answers but for Place, whose word is
0 (Table 4-2): the others carry a free value (log entry 2). -/
def Obligations.Table13AnswersWithoutEffect : Prop :=
  ∀ (r : Request) (tag : Byte) (s : State) (code : ResultCode), s.hasRoom = true → table13 s r = some code →
    ∃ t, exec (Request.command tag r) s = .next t
      ∧ Refused s t tag r.kindByte code (match r with
          | .place _ => some 0
          | _ => none)

/-- A request that finds 16 replies in the list is discarded: one link error, no reply, nothing else (R173, step 1; log
entry 6). -/
def Obligations.FullReplyListDiscardsTheRequest : Prop :=
  ∀ (r : Request) (tag : Byte) (s : State), 16 ≤ s.link.replies.length →
    exec (Request.command tag r) s =
      .next { s with link := beginNext { s.link with errors := min 65535 (s.link.errors + 1) } }

/-! ## Definition requests -/

/-- A Configure taken by Table 1-3 is refused with RANGE and the number of its first field out of range, and nothing
changes (R22). -/
def Obligations.ConfigureRefusedAtFirstField : Prop :=
  ∀ (tag : Byte) (r : ConfigRec) (s : State) (n : Nat), s.hasRoom = true →
    s.job.state = .unconfigured ∨ (s.job.state = .idle ∧ s.queue.entries = []) →
    FirstOutOfRange (configField r) 1 33 n →
    ∃ t, exec (.configure tag r) s = .next t ∧ Refused s t tag 0x01 .range (some n)

/-- An accepted Configure in UNCONFIGURED: the record is in force and the state is IDLE, the closed zones and lamps are
derived (R23, R157, R163), the Z timer starts if the confirmation is PENDING (R107) and the valve timer if the jet is
CLOSING (R120). With a drive-ready input inactive the DRIVE fault follows (R114), and the reply is formed after it (log
entry 26). -/
def Obligations.FirstConfigureBringsIdle : Prop :=
  ∀ (tag : Byte) (r : ConfigRec) (s : State), s.hasRoom = true → s.job.state = .unconfigured →
    AllInRange (configField r) 1 33 →
    (DrivesReady s.lines →
      ∃ t posted, exec (.configure tag r) s = .next t ∧ Replied s t tag 0x01 .ok none false posted
        ∧ Report.state .idle none .unconfigured s.job.sub ∈ posted
        ∧ ClosedSound t ∧ LampsSound t
        ∧ t = { s with
            config := some r, job := { s.job with state := .idle, sub := none }
            axis := { s.axis with
              zTimer := if s.axis.zConfirmed = true then s.axis.zTimer else some r.zTimeout }
            jet := { s.jet with
              valveTimer := if s.jet.state = .closing then some (r.valveTimeout, .idle) else s.jet.valveTimer }
            plan := t.plan, zone := t.zone, link := t.link, freeCount := t.freeCount })
    ∧ (¬ DrivesReady s.lines →
      ∃ t posted, exec (.configure tag r) s = .next t ∧ Replied s t tag 0x01 .ok none false posted
        ∧ t.config = some r ∧ t.job.state = .fault ∧ t.job.residency = some 2000 ∧ t.job.referenced = false
        ∧ t.axis.frozen = true
        ∧ t.job.fault = {
            kind := some .drive
            detail := if s.lines.readyX = false then 1 else if s.lines.readyY = false then 2 else 3
            secondary := 0 })

/-- An accepted Configure in IDLE replaces the record in force and keeps the state, the tables, the axes, the jet and
the jet-on time; the closed zones are derived again (R23, R118, R157, R165). The pump follows R154. An OFF or STARTING
pump stays as it is. A STEADY pump whose target's code changes, the reading not within tolerance of the new one, ramps
to it with the new ramp timeout; one whose code stands goes on, its ladder timers at the new delays, stopped where a
delay is 0 or the conditions of R150 or R151 do not hold. A RAMPING pump takes the new code and its ramp timer starts
again in full, also where the code stands (log entry 45); the code it held when the ramp began stands (log entry 20).
The last reading is judged by the tolerance under which it was taken until the next one. -/
def Obligations.ConfigureReplacesTheRecordInIdle : Prop :=
  ∀ (tag : Byte) (r : ConfigRec) (s : State) (c : ConfigRec), s.hasRoom = true → s.job.state = .idle →
    s.queue.entries = [] → s.config = some c → AllInRange (configField r) 1 33 →
    let tolerance := s.pump.formerTolerance.getD c.tolerance
    ∃ t posted, exec (.configure tag r) s = .next t ∧ Replied s t tag 0x01 .ok none false posted ∧ ClosedSound t
      ∧ t = { s with
          config := some r, plan := t.plan, zone := t.zone, pump := t.pump, link := t.link
          freeCount := t.freeCount }
      ∧ (s.pump.state = .off ∨ s.pump.state = .starting →
          t.pump = { s.pump with standbyTimer := none, offTimer := none, formerTolerance := some tolerance })
      ∧ (s.pump.state = .ramping →
          levelCode r s.pump.target = s.pump.code
            ∨ ¬ WithinTolerance tolerance (levelCode r s.pump.target) s.lines.reading →
          t.pump = { s.pump with
            code := levelCode r s.pump.target, rampTimer := some r.rampTimeout, standbyTimer := none
            offTimer := none, formerTolerance := some tolerance })
      ∧ (s.pump.state = .steady → levelCode r s.pump.target = s.pump.code →
          (let closed := s.pump.valveOpen = false ∧ s.pump.inSequence = false
           t.pump = { s.pump with
             standbyTimer :=
               if (s.pump.current = .pierce ∨ s.pump.current = .cut) ∧ closed ∧ 0 < r.standbyDelay then
                 some r.standbyDelay
               else none
             offTimer :=
               if s.pump.current = .standby ∧ closed ∧ 0 < r.offDelay then some r.offDelay else none
             formerTolerance := some tolerance }))
      ∧ (s.pump.state = .steady → levelCode r s.pump.target ≠ s.pump.code →
          ¬ WithinTolerance tolerance (levelCode r s.pump.target) s.lines.reading →
          t.pump = { s.pump with
            state := .ramping, rampFrom := s.pump.code, code := levelCode r s.pump.target, startTimer := none
            rampTimer := some r.rampTimeout, band := none, standbyTimer := none, offTimer := none
            formerTolerance := some tolerance })

/-- A Material request taken under R50 is checked in the order of R51: the slot number, the use count of the slot, then
fields 2 to 15 in the order of Table 3-1; a refusal changes nothing. A record that passes becomes the content of its
slot, fields 2 to 15 as sent, the reply is OK with the slot number, and nothing else changes, no plan, no pump demand
and no jet state (R52). The pierce methods are numbered by Table 11-10. -/
def Obligations.MaterialCheckedAndStored : Prop :=
  ∀ (tag : Byte) (r : MaterialReq) (s : State), s.hasRoom = true → s.job.state ≠ .unconfigured →
    s.job.state ≠ .trip →
    (7 < r.slot → ∃ t, exec (.material tag r) s = .next t ∧ Refused s t tag 0x02 .range (some 1))
    ∧ (∀ k : Fin 8, r.slot = k.val →
        (0 < s.queue.uses[k] →
          ∃ t, exec (.material tag r) s = .next t ∧ Refused s t tag 0x02 .inUse (some s.queue.uses[k]))
        ∧ (∀ n, s.queue.uses[k] = 0 → FirstOutOfRange (materialField r) 2 15 n →
          ∃ t, exec (.material tag r) s = .next t ∧ Refused s t tag 0x02 .range (some n))
        ∧ (s.queue.uses[k] = 0 → AllInRange (materialField r) 2 15 →
          ∃ t, exec (.material tag r) s = .next t ∧ Replied s t tag 0x02 .ok (some r.slot) false []
            ∧ t = { s with tables := t.tables, link := t.link }
            ∧ t.tables = { s.tables with materials := t.tables.materials }
            ∧ (∀ j : Fin 8, j ≠ k → t.tables.materials[j] = s.tables.materials[j])
            ∧ t.tables.materials[k] = some
                { q1 := r.q1, q2 := r.q2, q3 := r.q3, q4 := r.q4, q5 := r.q5, pPierce := r.pPierce, pCut := r.pCut
                  dwell := r.dwell
                  method := if r.method = 1 then .stationary else if r.method = 2 then .moving else .drilled
                  creepSpeed := r.creepSpeed, rate := r.rate, knee := r.knee, arcFloor := r.arcFloor
                  cMin := r.cMin }))

/-- A Nozzle request taken under R50 is refused with RANGE and the number of its first field out of range, in the order
of Table 3-3; the Nozzle record, the Wear Counter and the kerf estimate stay as they were (R56). -/
def Obligations.NozzleRefusedAtFirstField : Prop :=
  ∀ (tag : Byte) (r : NozzleReq) (s : State) (n : Nat), s.hasRoom = true →
    s.job.state = .idle ∨ s.job.state = .homing ∨ s.job.state = .fault → FirstOutOfRange (nozzleField r) 1 5 n →
    ∃ t, exec (.nozzle tag r) s = .next t ∧ Refused s t tag 0x03 .range (some n)

/-- An accepted Nozzle record (R57): fields 1 to 4 are in force, the minutes take field 5 with seconds and residue 0,
the alarm is cleared, the kerf is recomputed by R167, and a compare value above 0 already reached sets the alarm and
posts the one WEAR report. The reply carries the kerf estimate. Nothing else changes. -/
def Obligations.NozzleAccepted : Prop :=
  ∀ (tag : Byte) (r : NozzleReq) (s : State), s.hasRoom = true →
    s.job.state = .idle ∨ s.job.state = .homing ∨ s.job.state = .fault → AllInRange (nozzleField r) 1 5 →
    (let kerf := min r.kMax (r.k0 + r.growth * r.used / 60)
     let worn := decide (0 < r.compare ∧ r.compare ≤ r.used)
     ∃ t, exec (.nozzle tag r) s = .next t
       ∧ Replied s t tag 0x03 .ok (some kerf) false (if worn = true then [.wear r.used r.compare kerf true] else [])
       ∧ t = { s with
           tables := { s.tables with
             nozzle := some { k0 := r.k0, growth := r.growth, kMax := r.kMax, compare := r.compare } }
           wear := { s.wear with minutes := r.used, seconds := 0, residue := 0, kerf := kerf, alarm := worn }
           link := t.link })

/-- A Template request taken under R50: a slot above 15 refuses it with RANGE 1, then the first of fields 2 to 10 out of
range with its number (R60); otherwise fields 2 to 10 become the content of the slot and the reply is OK with the slot
number (R61). Nothing else changes. -/
def Obligations.TemplateCheckedAndStored : Prop :=
  ∀ (tag : Byte) (r : TemplateReq) (s : State), s.hasRoom = true → s.job.state ≠ .unconfigured →
    s.job.state ≠ .trip →
    (15 < r.slot → ∃ t, exec (.template tag r) s = .next t ∧ Refused s t tag 0x04 .range (some 1))
    ∧ (∀ n, r.slot ≤ 15 → FirstOutOfRange (templateField r) 2 10 n →
        ∃ t, exec (.template tag r) s = .next t ∧ Refused s t tag 0x04 .range (some n))
    ∧ (∀ k : Fin 16, r.slot = k.val → AllInRange (templateField r) 2 10 →
        ∃ t, exec (.template tag r) s = .next t ∧ Replied s t tag 0x04 .ok (some r.slot) false []
          ∧ t = { s with tables := t.tables, link := t.link }
          ∧ t.tables = { s.tables with templates := t.tables.templates }
          ∧ (∀ j : Fin 16, j ≠ k → t.tables.templates[j] = s.tables.templates[j])
          ∧ t.tables.templates[k] = some
              { width := r.width, depth := r.depth, radius := r.radius, leadIn := r.leadIn, bridge := r.bridge
                direction := if r.direction = 0 then .cw else .ccw
                quality := r.quality, material := r.material
                method := if r.method = 0 then none else if r.method = 1 then some .stationary
                  else if r.method = 2 then some .moving else some .drilled })

/-! ## Segment and Place -/

/-- A Segment record that passes Table 1-3 is checked in the order of R32: sequence number (R33), free slot (R34),
material slot (R36), then the fields and the geometry in the order of R37 and R38. The first check that fails refuses it
with the code and detail of its rule, and nothing changes. -/
def Obligations.SegmentRefusedInOrder : Prop :=
  ∀ (tag : Byte) (r : SegmentReq) (s : State), s.hasRoom = true →
    s.job.state = .idle ∨ s.job.state = .homing ∨ s.job.state = .run ∨ s.job.state = .hold →
    (let refusedWith (code : ResultCode) (detail : Nat) : Prop :=
       ∃ t, exec (.segment tag r) s = .next t ∧ Refused s t tag 0x05 code (some detail)
     let material := CuttingByte r.kind → ∃ k : Fin 8, r.slot = k.val ∧ s.tables.materials[k].isSome
     (r.seq ≠ s.queue.expected → refusedWith .sequence s.queue.expected.toNat)
     ∧ (r.seq = s.queue.expected → 256 ≤ s.queue.entries.length → refusedWith .queueFull 1)
     ∧ (r.seq = s.queue.expected → s.queue.entries.length < 256 → ¬ material → refusedWith .noSlot r.slot)
     ∧ (r.seq = s.queue.expected → s.queue.entries.length < 256 → material →
         ∀ n, FirstFail (segmentRules s r) n → refusedWith .range n))

/-- A Segment accepted in IDLE or HOMING joins the tail of the queue as the resolved entry of R29, R30, R35 and Table
2-3, a cutting entry with the pierce method field as sent, the expected sequence number, the use counts and the path
tail follow (R33, R39, R40), and nothing else but the plan and the lamps changes. -/
def Obligations.SegmentAcceptedAtRest : Prop :=
  ∀ (tag : Byte) (r : SegmentReq) (s : State), s.hasRoom = true → s.job.state = .idle ∨ s.job.state = .homing →
    r.seq = s.queue.expected → s.queue.entries.length < 256 →
    (CuttingByte r.kind → ∃ k : Fin 8, r.slot = k.val ∧ s.tables.materials[k].isSome) →
    AllHold (segmentRules s r) →
    ∃ t posted e, exec (.segment tag r) s = .next t ∧ Replied s t tag 0x05 .ok none false posted
      ∧ Appended s.queue t.queue [e]
      ∧ Resolved s r e
      ∧ t = { s with
          queue := t.queue, plan := t.plan, zone := withLampsOf t s, link := t.link, freeCount := t.freeCount }

/-- A Segment taken in RUN or in HOLD joins the tail of the queue as the same resolved entry, and no entry leaves it
(R16, R29, R30, R35, R39, R40). Outside STARVED the jet is not CLOSED, the head moves or the queue head is no END: an
END at which the head stands retires. The plan is made anew over the queue (R82, R92): a leg for each entry with the
limit of R83 to R85, and the junction limits of R87 and Table 5-2. With the bed open a part in RUN stays as it is. In
RUN/STARVED an entry that moves takes the part out of it: MOVING for a TRAVERSE, or where an approach leads to a contour
to be opened, with Z commanded CLEAR (R108), and PIERCING for a cutting entry at whose start the head stands, or that
continues the contour in which it stopped, the jet PREPARING (R19, R31, R39; log entry 22). -/
def Obligations.SegmentJoinsAMovingOrHeldJob : Prop :=
  ∀ (tag : Byte) (r : SegmentReq) (s : State), s.hasRoom = true → s.job.state = .run ∨ s.job.state = .hold →
    r.seq = s.queue.expected → s.queue.entries.length < 256 →
    (CuttingByte r.kind → ∃ k : Fin 8, r.slot = k.val ∧ s.tables.materials[k].isSome) →
    AllHold (segmentRules s r) →
    (let joined (t : State) (posted : List Report) : Prop :=
       exec (.segment tag r) s = .next t ∧ Replied s t tag 0x05 .ok none false posted
       ∧ (∃ e, Appended s.queue t.queue [e] ∧ Resolved s r e)
       ∧ t.tables = s.tables ∧ t.config = s.config ∧ t.wear = { s.wear with timing := t.wear.timing }
     (s.job.state = .hold →
       ∃ t posted, joined t posted ∧ t.job.hold = s.job.hold ∧ t.job.state = .hold
         ∧ (s.queue.recPath = [] → s.plan.approach = none → PlannedOverQueue t t.plan.legs))
     ∧ (s.job.state = .run → s.job.sub ≠ some .starved →
         s.jet.state ≠ .closed ∨ 0 < s.axis.speed ∨ (∃ e, s.queue.entries.head? = some e ∧ e.kind ≠ .segEnd) →
       ∃ t posted, joined t posted ∧ (BedOpen s → t.job = s.job)
         ∧ (s.queue.recPath = [] → s.plan.approach = none → PlannedOverQueue t t.plan.legs))
     ∧ (s.job.state = .run → s.job.sub = some .starved → r.kind ≠ 4 → s.queue.entries = [] → s.queue.recPath = [] →
         s.jet.state = .closed → Resting s → s.axis.pathPos = 0 → BedOpen s → s.lines.zReached ≠ some .pierce →
         s.axis.zCmd ≠ .pierce →
       (let moves := r.kind = 0
          ∨ (startPoint s ≠ s.axis.setPoint ∧ (s.queue.tailCut = false ∨ s.jet.contour = none))
        ∃ t posted, joined t posted
          ∧ (moves → t.job = { s.job with sub := some .moving } ∧ t.axis.zCmd = .clear ∧ t.jet = s.jet)
          ∧ (¬ moves → t.job = { s.job with sub := some .piercing } ∧ t.axis.zCmd = .pierce
              ∧ t.jet.state = .preparing ∧ t.pump.inSequence = true))))

/-- An END accepted in RUN/STARVED, the head standing and the jet CLOSED, retires at once: the queue is empty again, a
copy joins the Retired History, its RETIRED report is posted when its report flag is set, Z is commanded CLEAR, and the
part enters IDLE (R39, R43, R44, R108). -/
def Obligations.EndInStarvedEndsTheJob : Prop :=
  ∀ (tag : Byte) (r : SegmentReq) (s : State), s.hasRoom = true → s.job.state = .run → s.job.sub = some .starved →
    r.kind = 4 → r.seq = s.queue.expected → s.queue.entries = [] → s.queue.recPath = [] → s.jet.state = .closed →
    Resting s → s.axis.pathPos = 0 → s.plan.approach = none → s.queue.history.length ≤ 32 →
    ∃ t posted, exec (.segment tag r) s = .next t ∧ Replied s t tag 0x05 .ok none false posted
      ∧ t.job = { s.job with state := .idle, sub := none }
      ∧ t.queue.entries = [] ∧ t.queue.expected = s.queue.expected + 1 ∧ t.queue.uses = s.queue.uses
      ∧ t.queue.history.length = min 32 (s.queue.history.length + 1)
      ∧ (t.queue.history.getLast?.map HistEntry.seq) = some r.seq
      ∧ (r.report = true → Report.retired r.seq none r.tag ∈ posted)
      ∧ t.axis.zCmd = .clear ∧ t.jet.contour = none
      ∧ t.tables = s.tables ∧ t.config = s.config ∧ t.wear = s.wear ∧ t.pump = s.pump

/-- A Place that passes Table 1-3 is checked in the order of R65, with the codes and detail words of Table 4-2: sequence
number, template slot, material slot (the override, or the template's default), Nozzle record, quarter turns, geometry
after compensation, bed limits, free slots. The first check that fails refuses it, and nothing changes. -/
def Obligations.PlaceRefusedInOrder : Prop :=
  ∀ (tag : Byte) (r : PlaceReq) (s : State), s.hasRoom = true →
    s.job.state = .idle ∨ s.job.state = .homing ∨ s.job.state = .run ∨ s.job.state = .hold →
    (let refusedWith (code : ResultCode) (detail : Nat) : Prop :=
       ∃ t, exec (.place tag r) s = .next t ∧ Refused s t tag 0x06 code (some detail)
     (r.seq ≠ s.queue.expected → refusedWith .sequence s.queue.expected.toNat)
     ∧ (r.seq = s.queue.expected → s.template r.template = none → refusedWith .noSlot (256 + r.template))
     ∧ (∀ p, r.seq = s.queue.expected → s.template r.template = some p →
         (s.material (r.slotOverride.getD p.material) = none →
           refusedWith .noSlot (r.slotOverride.getD p.material))
         ∧ (s.material (r.slotOverride.getD p.material) ≠ none →
           (s.tables.nozzle = none → refusedWith .noSlot 512)
           ∧ (s.tables.nozzle ≠ none →
             ∀ c es, expand s r p s.wear.kerf = (c, es) →
               (∀ n, FirstFail (placeRules s r c es) n → refusedWith .range n)
               ∧ (AllHold (placeRules s r c es) → 256 < s.queue.entries.length + es.length →
                   refusedWith .queueFull es.length)))))

/-- An accepted Place (R16, R39, R68 to R79): its compensated dimensions, lead-in, bridge and flags are those of R68,
R70 and R73; its entries join the queue together under one sequence number, each naming the resolved slot, numbered from
0, the first a TRAVERSE from the start point of R31, each later one cutting from where the one before it ends, index 1
opening the contour, and only the last carrying the report flag and tag; their kinds, end points and arc centres are the
pieces of Table 4-3 that R74 keeps, mirrored for CW (R72) and turned (R75). Their count is that of R74, and the reply
carries it with the expansion summary. In IDLE and HOMING nothing else but the plan and the lamps changes. In RUN and
HOLD the plan is made anew over the queue (R82, R92), the hold stands, and with the bed open a part in RUN stays as it
is, unless it stands with the jet CLOSED at an END that retires; in RUN/STARVED the head goes on, MOVING, with Z
commanded CLEAR (R39, R108). -/
def Obligations.PlaceAccepted : Prop :=
  ∀ (tag : Byte) (r : PlaceReq) (s : State) (p : TemplateRec) (c : Compensation) (es : List QueueEntry),
    s.hasRoom = true → s.job.state = .idle ∨ s.job.state = .homing ∨ s.job.state = .run ∨ s.job.state = .hold →
    r.seq = s.queue.expected → s.template r.template = some p →
    s.material (r.slotOverride.getD p.material) ≠ none → s.tables.nozzle ≠ none →
    expand s r p s.wear.kerf = (c, es) → AllHold (placeRules s r c es) →
    s.queue.entries.length + es.length ≤ 256 →
    (let joined (t : State) (posted : List Report) : Prop :=
       exec (.place tag r) s = .next t
       ∧ t.link = linkAfter s.link posted (some (replyOver t tag 0x06 .ok (BitVec.ofNat 16 es.length) false
           (.place {
             count := es.length, kerf := s.wear.kerf, enlarged := c.enlarged, leadInClamped := c.leadInClamped
             bridgeClamped := c.bridgeClamped, radius := c.radius.toNat, leadIn := c.leadIn.toNat
             bridge := c.bridge.toNat })))
       ∧ Appended s.queue t.queue es
       ∧ t.tables = s.tables ∧ t.config = s.config ∧ t.wear = { s.wear with timing := t.wear.timing }
     let planned (t : State) : Prop :=
       s.queue.recPath = [] → s.plan.approach = none → PlannedOverQueue t t.plan.legs
     (s.job.state = .idle ∨ s.job.state = .homing →
       ∃ t posted, joined t posted
         ∧ t = { s with queue := t.queue, plan := t.plan, zone := withLampsOf t s, link := t.link })
     ∧ (s.job.state = .hold →
       ∃ t posted, joined t posted ∧ t.job.hold = s.job.hold ∧ t.job.state = .hold ∧ planned t)
     ∧ (s.job.state = .run → s.job.sub ≠ some .starved →
         s.jet.state ≠ .closed ∨ 0 < s.axis.speed ∨ (∀ e, s.queue.entries.head? = some e → e.kind ≠ .segEnd) →
       ∃ t posted, joined t posted ∧ (BedOpen s → t.job = s.job) ∧ planned t)
     ∧ (s.job.state = .run → s.job.sub = some .starved → s.queue.entries = [] → s.queue.recPath = [] →
         s.jet.state = .closed → Resting s → s.axis.pathPos = 0 → BedOpen s →
       ∃ t posted, joined t posted ∧ t.job = { s.job with sub := some .moving } ∧ t.axis.zCmd = .clear
         ∧ t.jet = s.jet ∧ t.pump = s.pump))
    ∧ (let k := s.wear.kerf
       let r : Int := (p.radius : Int) - ((k / 2 : Nat) : Int)
       let r := if p.radius = min p.width p.depth / 2 then min r (min c.a c.b) else r
       c.a = ((p.width : Int) - k) / 2 ∧ c.b = ((p.depth : Int) - k) / 2
       ∧ c.radius = max r s.cfg.rMin ∧ c.enlarged = decide (r < s.cfg.rMin)
       ∧ c.leadIn = min (p.leadIn : Int) c.b ∧ c.leadInClamped = decide (c.b < (p.leadIn : Int))
       ∧ c.bridge = (if c.a = c.radius then 0 else min (p.bridge : Int) (c.a - c.radius))
       ∧ c.bridgeClamped = decide (c.bridge < (p.bridge : Int)))
    ∧ es.map (fun e => (e.kind, (e.shape.map Shape.stop).getD r.centre, (e.shape.bind Shape.arc).map ArcGeom.centre))
        = placedLayout p.direction c r.centre r.turns
    ∧ (∀ e ∈ es, e.kind.cutting = true → e.quality = some p.quality)
    ∧ (∀ e ∈ es, ∀ m, e.opens = true → s.material (r.slotOverride.getD p.material) = some m →
        e.method = some (p.method.getD m.method))
    ∧ (es.length : Int) = 5 + (if 0 < c.leadIn then 1 else 0) + (if c.radius < c.a then 2 else 0)
        + (if 0 < c.a - c.radius - c.bridge then 1 else 0) + (if c.radius < c.b then 2 else 0)
    ∧ (∀ (i : Nat) (e : QueueEntry), es[i]? = some e →
        e.seq = r.seq ∧ e.pidx = some i ∧ e.slot = some (r.slotOverride.getD p.material)
        ∧ (e.opens = true ↔ i = 1) ∧ (e.kind = .traverse ↔ i = 0) ∧ e.kind ≠ .segEnd
        ∧ e.report = (decide (i + 1 = es.length) && r.report)
        ∧ e.tag = (if i + 1 = es.length then r.tag else none)
        ∧ ∃ sh, e.shape = some sh
            ∧ (i = 0 → sh.start = startPoint s)
            ∧ (∀ j d, i = j + 1 → es[j]? = some d → d.shape.map Shape.stop = some sh.start))

/-- The geometry after compensation never refuses a Place made from records in range: with a template in the ranges of
Table 3-4, a kerf of at most 5,000 and an r_min of at most 5,000, the compensated half-width and half-depth reach the
radius, and the applied lead-in and bridge fit (R68 to R70, R73). -/
def Obligations.InRangeTemplatesAlwaysFit : Prop :=
  ∀ (r : TemplateReq) (kerf rMin : Nat), AllInRange (templateField r) 2 10 → kerf ≤ 5000 → 200 ≤ rMin →
    rMin ≤ 5000 →
    (let c := compensate (templateRecOf r) kerf rMin
     (rMin : Int) ≤ c.radius ∧ c.radius ≤ c.a ∧ c.radius ≤ c.b ∧ 0 ≤ c.leadIn ∧ c.leadIn ≤ c.b ∧ 0 ≤ c.bridge
     ∧ c.radius + c.bridge ≤ c.a ∧ c.widthFails = false ∧ c.depthFails = false)

/-! ## Job control -/

/-- Run in IDLE, by the first entry (R18, R19, R31, R43): refused with NOT_REFERENCED while the referenced flag is
clear; otherwise taken, the excursion count reset. With the queue empty the substate is STARVED. With a first entry that
moves, not a cutting entry at whose start the head stands, it is MOVING, with an approach unless the head stands at the
entry's start, and Z is commanded CLEAR for the TRAVERSE (R108). With an END first, the END retires and the part is in
IDLE. With the head at the start of a first entry that touches a closed zone, the begin is withheld (R159, R162): the
substate is ZONE_WAIT, a ZONE stop stands at the head, the pump is asked for nothing, and before a TRAVERSE Z is
commanded CLEAR (R108; log entry 24). -/
def Obligations.RunByTheFirstEntry : Prop :=
  ∀ (tag : Byte) (s : State), s.hasRoom = true → s.job.state = .idle →
    (s.job.referenced = false →
      ∃ t, exec (.run tag) s = .next t ∧ Refused s t tag 0x07 .notReferenced none)
    ∧ (s.job.referenced = true → s.queue.recPath = [] → Resting s → s.axis.pathPos = 0 →
      (BedOpen s → s.queue.entries = [] →
        ∃ t posted, exec (.run tag) s = .next t ∧ Replied s t tag 0x07 .ok none false posted
          ∧ t = { s with
              job := { s.job with state := .run, sub := some .starved }
              axis := { s.axis with excursions := 0, threshold := false }
              plan := t.plan, zone := withLampsOf t s, link := t.link, freeCount := t.freeCount })
      ∧ (∀ e es sh, BedOpen s → s.queue.entries = e :: es → e.shape = some sh → e.kind ≠ .segEnd →
          e.kind = .traverse ∨ s.axis.setPoint ≠ sh.start → s.jet.contour = none →
        ∃ t posted, exec (.run tag) s = .next t ∧ Replied s t tag 0x07 .ok none false posted
          ∧ t.plan.approach = (if s.axis.setPoint = sh.start then none
              else some (straightShape s.axis.setPoint sh.start))
          ∧ t.axis.zCmd = .clear
          ∧ t = { s with
              job := { s.job with state := .run, sub := some .moving }
              axis := { s.axis with
                excursions := 0, threshold := false, zCmd := t.axis.zCmd, zConfirmed := t.axis.zConfirmed
                zTimer := t.axis.zTimer }
              plan := t.plan, zone := withLampsOf t s, link := t.link, freeCount := t.freeCount })
      ∧ (∀ e es sh z, OnlyClosed s z → s.queue.entries = e :: es → e.shape = some sh → e.kind ≠ .segEnd →
          e.kind.cutting = e.opens → s.axis.setPoint = sh.start → e.touches s.cfg z = true → s.jet.contour = none →
          s.jet.seq = none → s.jet.cutEntry = none →
        ∃ t posted, exec (.run tag) s = .next t ∧ Replied s t tag 0x07 .ok none false posted
          ∧ t.job = { s.job with state := .run, sub := some .zoneWait }
          ∧ (∃ u ∈ t.plan.stops, u.kind = .zone ∧ u.zone = some z ∧ u.pos = 0)
          ∧ t.queue = s.queue ∧ t.jet = s.jet ∧ t.pump = s.pump
          ∧ (e.kind = .traverse → t.axis.zCmd = .clear) ∧ (e.kind ≠ .traverse → t.axis.zCmd = s.axis.zCmd))
      ∧ (∀ e es, BedOpen s → s.queue.entries = e :: es → e.kind = .segEnd → e.shape = none → e.slot = none →
          s.jet.state = .closed →
        ∃ t posted, exec (.run tag) s = .next t ∧ Replied s t tag 0x07 .ok none false posted
          ∧ t.job = { s.job with state := .idle, sub := none }
          ∧ t.queue.entries = es ∧ t.queue.uses = s.queue.uses ∧ t.queue.expected = s.queue.expected
          ∧ (e.report = true → Report.retired e.seq e.pidx e.tag ∈ posted)
          ∧ t.axis.zCmd = .clear ∧ t.jet.contour = none ∧ t.tables = s.tables ∧ t.pump = s.pump))

/-- Run in IDLE with the head standing at the start of a first, contour-opening cutting entry, the jet CLOSED and Z not
at PIERCE (R18, R122, R123): the substate is PIERCING, the jet enters PREPARING with the record of a PIERCE by the
entry's resolved method, Z is commanded PIERCE with its timer in full (R107), and the pump is told of a sequence in
progress (R121). -/
def Obligations.RunBeginsThePierce : Prop :=
  ∀ (tag : Byte) (s : State) (e : QueueEntry) (es : List QueueEntry) (sh : Shape) (k : Nat) (m : MaterialRec),
    s.hasRoom = true → s.job.state = .idle → s.job.referenced = true → s.queue.recPath = [] → Resting s →
    s.axis.pathPos = 0 → BedOpen s → s.queue.entries = e :: es → e.kind.cutting = true → e.opens = true →
    e.shape = some sh → s.axis.setPoint = sh.start → e.slot = some k → s.material k = some m →
    s.jet.state = .closed → s.jet.contour = none → s.axis.zCmd ≠ .pierce → s.lines.zReached ≠ some .pierce →
    ∃ t posted, exec (.run tag) s = .next t ∧ Replied s t tag 0x07 .ok none false posted
      ∧ t.job = { s.job with state := .run, sub := some .piercing }
      ∧ t.queue = s.queue ∧ t.plan.approach = none
      ∧ t.jet = { s.jet with
          state := .preparing, rate := m.rate
          seq := some {
            kind := .pierce, method := e.method, entry := (e.seq, e.pidx), pPierce := m.pPierce, pCut := m.pCut
            dwell := m.dwell, creepSpeed := m.creepSpeed, rate := m.rate, timer := none } }
      ∧ t.axis = { s.axis with
          excursions := 0, threshold := false, zCmd := .pierce, zConfirmed := false
          zTimer := some s.cfg.zTimeout }
      ∧ t.pump.inSequence = true ∧ t.tables = s.tables ∧ t.config = s.config ∧ t.wear = s.wear

/-- A Hold taken in RUN/MOVING with the head moving along a queue entry (R13, R95): HOLD/STOPPING with reason HOST, the
hold stop at the stopping distance from the present speed, at a_cut on a cutting entry and a_traverse on a TRAVERSE, or
at a planned stop ahead that lies nearer; the distance is counted from the whole micrometre the head has reached (log
entry 11). The queue is kept. The approach, the backtrack and the recut are left out. -/
def Obligations.HoldWhileMovingPlacesTheHoldStop : Prop :=
  ∀ (tag : Byte) (s : State) (l : Leg) (d : Nat), s.hasRoom = true → s.job.state = .run →
    s.job.sub = some .moving → s.job.hold = none → 0 < s.axis.speed → s.axis.stopRun = none → s.axis.homing = none →
    s.plan.legs.head? = some l → l.kind = .entry → l.isEnd = false →
    s.axis.pathPos < 60 * l.len → 0 < s.cfg.aCut → 0 < s.cfg.aTraverse →
    IsStoppingDistance s.axis.speed (if l.cutting = true then s.cfg.aCut else s.cfg.aTraverse) d →
    ∃ t posted, exec (.hold tag) s = .next t ∧ Replied s t tag 0x08 .ok none false posted
      ∧ t.job = { s.job with
          state := .hold, sub := some .stopping, hold := some { reason := .host, zone := none }, deferred := false }
      ∧ Report.hold (some .host) none ∈ posted
      ∧ (∃ u, t.plan.holdStop = some u ∧ StopLies s.plan.allStops s.axis.pathPos d u.pos
          ∧ u.decel = (if l.cutting = true then s.cfg.aCut else s.cfg.aTraverse))
      ∧ t.queue = s.queue ∧ t.axis = s.axis ∧ t.tables = s.tables ∧ t.config = s.config ∧ t.lines = s.lines

/-- A Hold taken in RUN at standstill (R13, R14). In ZONE_WAIT or STARVED with the jet CLOSED and the head at rest:
HOLD/HELD with reason HOST. In PIERCING with the jet PREPARING or FEEDING and the switch active: the sequence is
abandoned, the jet CLOSED and the part in HOLD/HELD. In PIERCING with the jet in DWELL or RAMPING: deferred, the reply's
deferred flag set and nothing else changed. HOLD/STOPPING becomes HOLD/HELD when the head is at standstill at the hold
stop and the jet CLOSED, whichever is second (R16): by VALVE_SWITCH_ACTIVE with the jet CLOSING, where a pending
recovery that ends at a stop there ends (R140; log entry 47), and by the interpolation period in which the head has come
to its hold stop, or to another planned stop short of it, a RESTART stop of a zone that has opened again (R161) among
them, where the hold stop is then (log entry 54). -/
def Obligations.HoldAtStandstill : Prop :=
  ∀ (tag : Byte) (s : State),
    (s.hasRoom = true → s.job.state = .run →
      (s.job.sub = some .zoneWait ∨ s.job.sub = some .starved → s.jet.state = .closed → Resting s →
        ∃ t posted, exec (.hold tag) s = .next t ∧ Replied s t tag 0x08 .ok none false posted
          ∧ t = { s with
              job := { s.job with
                state := .hold, sub := some .held, hold := some { reason := .host, zone := none }, deferred := false }
              plan := t.plan, zone := withLampsOf t s, link := t.link, freeCount := t.freeCount })
      ∧ (s.job.sub = some .piercing → s.jet.state = .preparing ∨ s.jet.state = .feeding →
        s.lines.valveClosed = true → s.jet.seq.isSome →
        ∃ t posted, exec (.hold tag) s = .next t ∧ Replied s t tag 0x08 .ok none false posted
          ∧ t.job = { s.job with
              state := .hold, sub := some .held, hold := some { reason := .host, zone := none }, deferred := false }
          ∧ t.jet = { s.jet with
              state := .closed, seq := none, cutEntry := none, rate := 0, armed := false, window := none }
          ∧ t.pump.inSequence = false ∧ t.pump.state = s.pump.state ∧ t.pump.code = s.pump.code
          ∧ t.queue = s.queue ∧ t.axis = s.axis)
      ∧ (s.job.sub = some .piercing → s.jet.state = .dwell ∨ s.jet.state = .ramping →
        ∃ t, exec (.hold tag) s = .next t ∧ Replied s t tag 0x08 .ok none true []
          ∧ t = { s with job := { s.job with deferred := true }, link := t.link, freeCount := t.freeCount }))
    ∧ (∀ u, s.job.state = .hold → s.job.sub = some .stopping → s.plan.holdStop = some u →
        60 * u.pos = (s.axis.pathPos : Int) →
        (s.jet.state = .closing → s.jet.seq = none → s.axis.speed = 0 →
          ∃ t posted, exec .valveSwitchActive s = .next t ∧ t.link = linkAfter s.link posted none
            ∧ t.job = { s.job with sub := some .held }
            ∧ (¬ RecoveryEndsHere s → t.jet = { s.jet with state := .closed, valveTimer := none })
            ∧ (RecoveryEndsHere s → t.jet = { s.jet with state := .closed, valveTimer := none, recovery := none })
            ∧ t.queue = s.queue ∧ t.axis = s.axis ∧ t.wear = { s.wear with timing := false })
        ∧ (∀ c fbX fbY homeX homeY point, s.jet.state = .closed → s.config = some c → s.axis.frozen = false →
            s.axis.stopRun = none → s.axis.homing = none → s.queue.recBack = false →
            point = pointHere s → WithinWarn c point ⟨fbX + s.axis.offset.x, fbY + s.axis.offset.y⟩ →
          ∃ t posted, exec (.interpolationPeriod fbX fbY homeX homeY) s = .next t
            ∧ t.link = linkAfter s.link posted none ∧ t.job = { s.job with sub := some .held }
            ∧ t.axis = { s.axis with
                actual := ⟨fbX + s.axis.offset.x, fbY + s.axis.offset.y⟩, speed := 0, setPoint := point
                beyondX := false, beyondY := false }
            ∧ t.queue = s.queue))
    ∧ (∀ u w c fbX fbY homeX homeY, s.job.state = .hold → s.job.sub = some .stopping → s.plan.holdStop = some u →
        60 * u.pos ≠ (s.axis.pathPos : Int) → w ∈ s.plan.stops → 60 * w.pos = (s.axis.pathPos : Int) →
        (∀ v ∈ s.plan.stops, 60 * v.pos = (s.axis.pathPos : Int) → v.kind ≠ .zone ∨ v.inside = false) →
        s.jet.state = .closed → s.config = some c → s.axis.frozen = false → s.axis.stopRun = none →
        s.axis.homing = none → s.queue.recBack = false →
        WithinWarn c (pointHere s) ⟨fbX + s.axis.offset.x, fbY + s.axis.offset.y⟩ →
      ∃ t posted h, exec (.interpolationPeriod fbX fbY homeX homeY) s = .next t
        ∧ t.link = linkAfter s.link posted none ∧ t.job = { s.job with sub := some .held }
        ∧ t.plan.holdStop = some h ∧ h.pos = w.pos ∧ t.axis.speed = 0 ∧ t.axis.pathPos = s.axis.pathPos
        ∧ t.queue = s.queue)

/-- A Resume in HOLD/HELD (R17, Table 1-7): refused with CAUSE_PRESENT, detail 1 for A and 2 for B, while the hold
record's guard zone has its guard OPEN. Otherwise, for reason HOST or GUARD, the hold record is cleared with a HOLD
report of reason 0 (R15) and the part is in RUN: STARVED at the end of the queued path, MOVING before a TRAVERSE, and
PIERCING with the head at the start of a cutting entry or inside it (R122): with a contour record a kerf restart, or the
pierce repeated in full by the contour's method when it is incomplete, and without one, at the opening entry's start,
the pierce abandoned before its valve opened, from its first stage. A closed zone withholds the begin (R162): before a
TRAVERSE that touches it the substate is ZONE_WAIT, Z being commanded CLEAR (R108; log entry 24), and inside a contour a
GUARD hold for it follows at once. -/
def Obligations.ResumeGoesOnFromStandstill : Prop :=
  ∀ (tag : Byte) (s : State) (h : HoldRecord), s.hasRoom = true → s.job.state = .hold → s.job.sub = some .held →
    s.job.hold = some h →
    (∀ z, h.zone = some z → s.lines.guardOpen z = true →
      ∃ t, exec (.resume tag) s = .next t
        ∧ Refused s t tag 0x09 .causePresent (some (if z = .a then 1 else 2)))
    ∧ ((∀ z, h.zone = some z → s.lines.guardOpen z = false) → h.reason ≠ .abrasive → s.queue.recPath = [] →
      s.jet.state = .closed → Resting s →
      (BedOpen s → s.queue.entries = [] → s.axis.pathPos = 0 ∨ s.plan.approach = none →
        ∃ t posted, exec (.resume tag) s = .next t ∧ Replied s t tag 0x09 .ok none false posted
          ∧ Report.hold none none ∈ posted
          ∧ t = { s with
              job := { s.job with state := .run, sub := some .starved, hold := none }
              plan := t.plan, zone := withLampsOf t s, link := t.link, freeCount := t.freeCount })
      ∧ (∀ e es, BedOpen s → s.queue.entries = e :: es → e.kind = .traverse →
        ∃ t posted, exec (.resume tag) s = .next t ∧ Replied s t tag 0x09 .ok none false posted
          ∧ Report.hold none none ∈ posted
          ∧ t.job = { s.job with state := .run, sub := some .moving, hold := none }
          ∧ t.queue = s.queue ∧ t.jet = s.jet ∧ t.pump = s.pump ∧ t.plan.holdStop = none)
      ∧ (∀ e es, BedOpen s → s.queue.entries = e :: es → e.kind.cutting = true → StandsOn s e →
          s.jet.contour.isSome ∨ e.opens = true → s.lines.zReached ≠ some .pierce → s.axis.zCmd ≠ .pierce →
        ∃ t posted, exec (.resume tag) s = .next t ∧ Replied s t tag 0x09 .ok none false posted
          ∧ Report.hold none none ∈ posted
          ∧ t.job = { s.job with state := .run, sub := some .piercing, hold := none }
          ∧ t.queue = s.queue ∧ t.jet.state = .preparing ∧ t.jet.contour = s.jet.contour
          ∧ t.jet.incomplete = s.jet.incomplete
          ∧ (∃ q, t.jet.seq = some q ∧ q.entry = (e.seq, e.pidx)
              ∧ (q.kind = .pierce ↔ s.jet.contour = none ∨ s.jet.incomplete = true)
              ∧ q.method = (match s.jet.contour with
                  | none => e.method
                  | some c => if s.jet.incomplete = true then c.method else none))
          ∧ t.axis.zCmd = .pierce ∧ t.pump.inSequence = true ∧ t.plan.holdStop = none)
      ∧ (∀ e es sh z, OnlyClosed s z → s.queue.entries = e :: es → e.kind = .traverse → e.shape = some sh →
          sh.start = s.axis.setPoint → s.axis.pathPos = 0 → e.touches s.cfg z = true →
        ∃ t posted, exec (.resume tag) s = .next t ∧ Replied s t tag 0x09 .ok none false posted
          ∧ t.job = { s.job with state := .run, sub := some .zoneWait, hold := none }
          ∧ t.queue = s.queue ∧ t.jet = s.jet ∧ t.pump = s.pump ∧ t.axis.zCmd = .clear)
      ∧ (∀ e es c z x, OnlyClosed s z → s.queue.entries = e :: es → e.kind.cutting = true → StandsOn s e →
          s.jet.contour = some c → s.axis.pathPos = 60 * x →
          (if x = 0 then e.touches s.cfg z = true else pointTouches s.cfg s.axis.setPoint z = true) →
        ∃ t posted, exec (.resume tag) s = .next t ∧ Replied s t tag 0x09 .ok none false posted
          ∧ t.job = { s.job with
              state := .hold, sub := some .held, hold := some { reason := .guard, zone := some z }, deferred := false }
          ∧ Report.hold (some .guard) (some z) ∈ posted ∧ t.queue = s.queue ∧ t.axis = s.axis
          ∧ t.jet.state = .closed ∧ t.jet.seq = none ∧ t.jet.contour = some c))

/-- A Resume in HOLD/HELD with reason ABRASIVE (R137, R138, R141, Table 7-6), a guard zone of the hold record CLOSED. On
a cutting entry s_stop is the present contour distance, s_r the greatest of the four terms, the RECOVERY report is
posted and the recovery record is pending. The contour floor is the contour start of the oldest entry of the current
contour (R46), here for a head within the executing entry's length. With s_r before s_stop a Recovery Path stands (R47):
a piece of each history entry of the contour that the stretch overlaps, and of the executing entry, in order, each from
the point at its contour start to the point at its end with the speed limit, pressures and rate it carries; where the
contour ranges join, their lengths add up to s_stop less s_r. The substate is BACKTRACK, or, where one of its entries
touches a closed zone, a GUARD hold for it follows at once (R162). With s_r at s_stop no path is built and the substate
is PIERCING: a kerf restart, or the pierce repeated when it is incomplete. Before a TRAVERSE or at the end of the queued
path s_r is s_stop with SHORT, the record is not pending, and the substate is MOVING or STARVED. -/
def Obligations.AbrasiveResumeBacktracks : Prop :=
  ∀ (tag : Byte) (s : State) (h : HoldRecord), s.hasRoom = true → s.job.state = .hold → s.job.sub = some .held →
    s.job.hold = some h → h.reason = .abrasive → (∀ z, h.zone = some z → s.lines.guardOpen z = false) →
    s.queue.recPath = [] → s.jet.state = .closed →
    (∀ e es sh c p m k run, s.queue.entries = e :: es → e.kind.cutting = true → e.shape = some sh →
      s.queue.progress ≤ sh.length → s.jet.contour = some c → s.jet.lastPulse = some p → s.entryMaterial e = some m →
      e.quality = some k → 1 ≤ k → k ≤ 5 → ContourRun s e run →
      (let floor := floorOf run c.start
       let sStop : Int := ((c.start + s.queue.progress : Nat) : Int)
       let sR : Int := max (max ((p : Int) - s.cfg.overlap) (sStop - s.cfg.backtrackLimit))
         (max 0 (floor : Int))
       let short := decide ((p : Int) - s.cfg.overlap < sStop - s.cfg.backtrackLimit ∨ (p : Int) - s.cfg.overlap < 0
         ∨ (p : Int) - s.cfg.overlap < (floor : Int))
       let built (t : State) : Prop :=
         t.queue.recPath = recoveryPieces s e m k sh run c.start sR.toNat sStop.toNat ∧ t.queue.recBack = true
         ∧ t.queue.entries = s.queue.entries ∧ t.queue.progress = s.queue.progress
         ∧ (RunJoins c.start run → t.queue.recPath ≠ []
             ∧ (t.queue.recPath.map (fun q => q.shape.length)).sum = (sStop - sR).toNat)
       let begun (t : State) (posted : List Report) : Prop :=
         exec (.resume tag) s = .next t ∧ Replied s t tag 0x09 .ok none false posted
         ∧ t.jet.recovery = some { isPending := true, sStop := sStop.toNat, sR := sR.toNat, short := short }
         ∧ Report.recovery (some (e.seq, e.pidx)) sStop.toNat sR.toNat (sStop - sR).toNat p short ∈ posted
       (sR < sStop → 0 < s.queue.progress → BedOpen s →
         ∃ t posted, begun t posted ∧ t.job = { s.job with state := .run, sub := some .backtrack, hold := none }
           ∧ t.jet = { s.jet with recovery := t.jet.recovery }
           ∧ built t)
       ∧ (∀ z, sR < sStop → 0 < s.queue.progress → OnlyClosed s z → Resting s →
         ∃ t posted, begun t posted ∧ built t
           ∧ t.job = (if ∃ q ∈ t.queue.recPath, touches s.cfg (xExtentPartial q.shape) z = true then
               { s.job with
                 state := .hold, sub := some .held, hold := some { reason := .guard, zone := some z }
                 deferred := false }
             else { s.job with state := .run, sub := some .backtrack, hold := none }))
       ∧ (sR = sStop → BedOpen s → Resting s → StandsOn s e → s.lines.zReached ≠ some .pierce →
           s.axis.zCmd ≠ .pierce →
         ∃ t posted, begun t posted ∧ t.job = { s.job with state := .run, sub := some .piercing, hold := none }
           ∧ t.queue = s.queue ∧ t.jet.state = .preparing ∧ t.jet.contour = some c
           ∧ (∃ q, t.jet.seq = some q ∧ q.kind = (if s.jet.incomplete = true then .pierce else .restart)
               ∧ q.method = (if s.jet.incomplete = true then c.method else none)))))
    ∧ (BedOpen s → Resting s →
       (let sStop := match s.jet.contour with
          | some c => c.start + s.queue.progress
          | none => 0
        let left (t : State) (posted : List Report) (ref : Option (SeqNo × Option Nat)) (sub : Substate) : Prop :=
          exec (.resume tag) s = .next t ∧ Replied s t tag 0x09 .ok none false posted
          ∧ t.job = { s.job with state := .run, sub := some sub, hold := none }
          ∧ t.jet = { s.jet with
              recovery := some { isPending := false, sStop := sStop, sR := sStop, short := true } }
          ∧ Report.recovery ref sStop sStop 0 (s.jet.lastPulse.getD 0) true ∈ posted ∧ t.queue = s.queue
        (∀ e es, s.queue.entries = e :: es → e.kind = .traverse →
          ∃ t posted, left t posted (some (e.seq, e.pidx)) .moving)
        ∧ (s.queue.entries = [] → s.axis.pathPos = 0 ∨ s.plan.approach = none → ∃ t posted, left t posted none .starved)))

/-- Stop (R11, R12, R45, R101). In IDLE the queue, the Recovery Path and the history are emptied, the use counts and the
expected sequence number are 0, and the part stays in IDLE. In RUN or HOLD with the head moving the part enters
ABORTING: hold record and deferred hold are discarded, the valve is commanded closed, and the ABORT stop alone stands,
at the a_traverse stopping distance from the whole micrometre reached (log entry 11) or at a planned stop that lies
nearer; the queue is kept until standstill. A head that still coasts has it at the start of the plan path (log entry
32). With the head standing and the jet CLOSED, ABORTING ends at once: queue flushed, Z to CLEAR, IDLE;
so does it when the valve switch reports, or in the period the head stands at the ABORT stop; with the jet CLOSING it
stays there. In HOMING the reference run ends: at once with the axes still, else each moving axis comes to rest at
a_traverse on its line (R110, R117), at its stopping distance or at its line's end where that is nearer, and the ABORT
stop keeps the head from the queued path (log entry 32); the referenced flag is clear. The state recorded with the valve
timer is log entry 29's reading. -/
def Obligations.StopFlushesOrAborts : Prop :=
  ∀ (tag : Byte) (s : State),
    (let emptied : SegQueue := {
       entries := [], expected := 0, uses := Vector.replicate 8 0, tailPos := none, tailCut := false
       progress := 0, history := [], recPath := [], recBack := false }
     let ended (t : State) : Prop :=
       t.job = { s.job with state := .idle, sub := none, hold := none, deferred := false }
       ∧ t.queue = emptied ∧ t.plan.stops = [] ∧ t.plan.legs = [] ∧ t.jet.contour = none
       ∧ t.jet.incomplete = false ∧ t.jet.recovery = none ∧ t.jet.seq = none ∧ t.jet.state = .closed
       ∧ t.axis.zCmd = .clear ∧ t.axis.setPoint = s.axis.setPoint ∧ t.pump.state = s.pump.state
       ∧ t.pump.code = s.pump.code ∧ t.tables = s.tables ∧ t.config = s.config
     (s.hasRoom = true →
       (s.job.state = .idle →
         ∃ t posted, exec (.stop tag) s = .next t ∧ Replied s t tag 0x0A .ok none false posted
           ∧ t.queue = emptied ∧ t.plan.legs = [] ∧ t.plan.stops = []
           ∧ t = { s with
               queue := t.queue, plan := t.plan, axis := { s.axis with pathPos := 0 }
               jet := { s.jet with contour := none, recovery := none }
               zone := withLampsOf t s, link := t.link, freeCount := t.freeCount })
       ∧ (s.job.state = .run ∨ s.job.state = .hold → 0 < s.axis.speed →
         ∃ t posted, exec (.stop tag) s = .next t ∧ Replied s t tag 0x0A .ok none false posted
           ∧ t.job = { s.job with state := .aborting, sub := none, hold := none, deferred := false }
           ∧ t.queue = s.queue ∧ t.axis = s.axis ∧ CloseCommanded s t
           ∧ (∃ u, t.plan.stops = [u] ∧ u.kind = .abort ∧ u.decel = s.cfg.aTraverse
               ∧ (∀ d, s.axis.stopRun = none → s.axis.homing = none → 0 < s.cfg.aTraverse →
                   IsStoppingDistance s.axis.speed s.cfg.aTraverse d →
                   StopLies s.plan.allStops s.axis.pathPos d u.pos)
               ∧ (s.axis.stopRun.isSome → s.axis.pathPos = 0 → u.pos = 0))
           ∧ t.plan.holdStop = none
           ∧ t.pump.state = s.pump.state ∧ t.pump.code = s.pump.code ∧ t.tables = s.tables)
       ∧ (∀ x, s.job.state = .run ∨ s.job.state = .hold → Resting s → s.axis.pathPos = 60 * x →
           s.jet.state = .closed →
         ∃ t posted, exec (.stop tag) s = .next t ∧ Replied s t tag 0x0A .ok none false posted ∧ ended t)
       ∧ (∀ (g : Homing) (n : Nat), s.job.state = .homing → s.axis.homing = some g → s.axis.frozen = false →
           s.axis.stopRun = none → s.axis.pathPos = 60 * n → s.jet.state = .closed ∨ s.jet.state = .closing →
           s.jet.seq = none →
         (s.jet.state = .closed → (∀ r, g.x.run = some r ∨ g.y.run = some r → r.speed = 0) → s.axis.speed = 0 →
           ∃ t posted, exec (.stop tag) s = .next t ∧ Replied s t tag 0x0A .ok none false posted
             ∧ t.job = { s.job with state := .idle, sub := none, hold := none, deferred := false, referenced := false }
             ∧ t.axis.homing = none ∧ t.axis.setPoint = s.axis.setPoint ∧ t.axis.zCmd = .clear)
         ∧ ((∃ r, (g.x.run = some r ∨ g.y.run = some r) ∧ 0 < r.speed) → 0 < s.cfg.aTraverse →
           ∃ t posted x y, exec (.stop tag) s = .next t ∧ Replied s t tag 0x0A .ok none false posted
             ∧ t.job = { s.job with
                 state := .aborting, sub := none, hold := none, deferred := false, referenced := false }
             ∧ AxisStops s.cfg.aTraverse g g.x x ∧ AxisStops s.cfg.aTraverse g g.y y
             ∧ t.axis = { s.axis with homing := some { x := x, y := y, timer := none, ending := true } }
             ∧ t.queue = s.queue ∧ t.jet.state = s.jet.state
             ∧ ∃ u, t.plan.stops = [u] ∧ u.kind = .abort ∧ u.pos = (n : Int))))
     ∧ (s.job.state = .aborting → s.job.hold = none → s.job.deferred = false → s.axis.stopRun = none →
         s.axis.homing = none → s.jet.seq = none →
         (∀ u ∈ s.plan.stops, 60 * u.pos = (s.axis.pathPos : Int)) →
         (s.axis.speed = 0 → s.jet.state = .closing →
           ∃ t posted, exec .valveSwitchActive s = .next t ∧ t.link = linkAfter s.link posted none ∧ ended t)
         ∧ (∀ c u fbX fbY homeX homeY, s.plan.stops = [u] → s.config = some c →
             s.axis.frozen = false → s.queue.recBack = false → pointHere s = s.axis.setPoint →
             WithinWarn c s.axis.setPoint ⟨fbX + s.axis.offset.x, fbY + s.axis.offset.y⟩ →
           (let period (t : State) (posted : List Report) : Prop :=
              exec (.interpolationPeriod fbX fbY homeX homeY) s = .next t ∧ t.link = linkAfter s.link posted none
            (s.jet.state = .closed → ∃ t posted, period t posted ∧ ended t)
            ∧ (s.jet.state = .closing →
              ∃ t posted, period t posted ∧ t.job = s.job ∧ t.queue = s.queue ∧ t.jet = s.jet ∧ t.axis.speed = 0
                ∧ t.axis.setPoint = s.axis.setPoint ∧ t.plan.stops = [u])))))

/-- Clear in FAULT (R8): RESIDENCY with the remaining ms while the residency timer runs; then CAUSE_PRESENT with the
number of the recorded kind while its cause of Table 1-6 is present; then taken: the fault record is cleared, the state
is IDLE, the set-points take the actual positions and the frozen and beyond flags are cleared (R118). A head still
running out the fault's stop is held there, the stop ended, and Z is commanded CLEAR at that standstill (R108, R110; log
entry 32). -/
def Obligations.ClearAnswersByResidencyAndCause : Prop :=
  ∀ (tag : Byte) (s : State) (k : FaultKind), s.hasRoom = true → s.job.state = .fault →
    s.job.fault.kind = some k →
    (∀ ms, s.job.residency = some ms → 1 ≤ ms →
      ∃ t, exec (.clear tag) s = .next t ∧ Refused s t tag 0x0B .residency (some ms))
    ∧ (s.job.residency = none → CausePresent s k →
      ∃ t, exec (.clear tag) s = .next t ∧ Refused s t tag 0x0B .causePresent (some k.number))
    ∧ (s.job.residency = none → ¬ CausePresent s k →
      ∃ t posted, exec (.clear tag) s = .next t ∧ Replied s t tag 0x0B .ok none false posted
        ∧ Report.fault { kind := none, detail := 0, secondary := 0 } ∈ posted
        ∧ t = { s with
            job := { s.job with state := .idle, sub := none, fault := { kind := none, detail := 0, secondary := 0 } }
            axis := { s.axis with
              setPoint := s.axis.actual, frozen := false, beyondX := false, beyondY := false
              speed := 0, stopRun := none, homing := none
              zCmd := t.axis.zCmd, zConfirmed := t.axis.zConfirmed, zTimer := t.axis.zTimer }
            plan := t.plan, zone := withLampsOf t s, link := t.link, freeCount := t.freeCount }
        ∧ (Resting s → t.axis.zCmd = s.axis.zCmd ∧ t.axis.zConfirmed = s.axis.zConfirmed ∧ t.axis.zTimer = s.axis.zTimer)
        ∧ (s.config ≠ none → ¬ Resting s → t.axis.zCmd = .clear ∧ (s.lines.zReached = some .clear → s.axis.zCmd ≠ .clear →
            t.axis.zConfirmed = true ∧ t.axis.zTimer = none)))

/-- The reference run (R20, R115, R116). Reference in IDLE: the referenced flag is cleared and the part is in HOMING
with the homing timer in full. With CLEAR yet to be confirmed both axes are in RAISING and Z is commanded CLEAR; with
CLEAR confirmed, or named by the input when Z is commanded to it, and the head at rest both enter SEEKING in the
negative direction, and an axis whose switch is active latches at once: its offset and set-point change so that its
actual position reads as home. Each period moves each axis on its own line; with both HOME the run succeeds: IDLE, the
referenced flag set, the timer gone. An axis in SEEKING goes on until its switch is active in a period, then is latched
and decelerates at a_traverse; from that rest it comes back at up to 1,000 mm/min to the home coordinate, where it is
HOME. On its line it rises and falls at a_traverse as R89 has it, and takes a rest of 1 µm in one step (log entry 44).
The errors are judged against the set-point after the step (log entry 27), and the present speed is the greater of the
two axes' (log entry 41). -/
def Obligations.ReferenceBeginsTheRun : Prop :=
  (∀ (tag : Byte) (s : State), s.hasRoom = true → s.job.state = .idle → Resting s →
    (let answered (t : State) (posted : List Report) : Prop :=
       exec (.reference tag) s = .next t ∧ Replied s t tag 0x0C .ok none false posted
     let raising : Option Homing := some {
       x := { phase := .raising, run := none }, y := { phase := .raising, run := none }
       timer := some s.cfg.homingTimeout, ending := false }
     (s.axis.zCmd ≠ .clear → s.lines.zReached ≠ some .clear →
       ∃ t posted, answered t posted
         ∧ t = { s with
             job := { s.job with state := .homing, sub := none, referenced := false }
             axis := { s.axis with
               zCmd := .clear, zConfirmed := false, zTimer := some s.cfg.zTimeout, homing := raising }
             plan := t.plan, zone := withLampsOf t s, link := t.link, freeCount := t.freeCount })
     ∧ (s.axis.zCmd = .clear → s.axis.zConfirmed = false →
       ∃ t posted, answered t posted
         ∧ t = { s with
             job := { s.job with state := .homing, sub := none, referenced := false }
             axis := { s.axis with homing := raising }
             plan := t.plan, zone := withLampsOf t s, link := t.link, freeCount := t.freeCount })
     ∧ ((s.axis.zCmd = .clear ∧ s.axis.zConfirmed = true)
          ∨ (s.axis.zCmd ≠ .clear ∧ s.lines.zReached = some .clear) → s.lines.homeX = false → s.lines.homeY = false →
         ∃ t posted h rx ry, answered t posted
           ∧ t.job = { s.job with state := .homing, sub := none, referenced := false }
           ∧ t.axis = { s.axis with
               homing := some h, zCmd := .clear, zConfirmed := true
               zTimer := if s.axis.zCmd = .clear then s.axis.zTimer else none }
           ∧ h.timer = some s.cfg.homingTimeout ∧ h.ending = false
           ∧ h.x = { phase := .seeking, run := some rx } ∧ h.y = { phase := .seeking, run := some ry }
           ∧ rx.dir = -1 ∧ ry.dir = -1 ∧ rx.vmax = 1000 ∧ ry.vmax = 1000 ∧ rx.acc = s.cfg.aTraverse
           ∧ ry.acc = s.cfg.aTraverse ∧ rx.start = s.axis.setPoint.x ∧ ry.start = s.axis.setPoint.y)
     ∧ (s.axis.zCmd = .clear → s.axis.zConfirmed = true →
       (s.lines.homeX = true → s.lines.homeY = false →
         (let shift := s.cfg.homeX - s.axis.actual.x
          ∃ t posted h, answered t posted
            ∧ t.job = { s.job with state := .homing, sub := none, referenced := false }
            ∧ t.axis = { s.axis with
                homing := some h, offset := ⟨s.axis.offset.x + shift, s.axis.offset.y⟩
                setPoint := ⟨s.axis.setPoint.x + shift, s.axis.setPoint.y⟩
                actual := ⟨s.cfg.homeX, s.axis.actual.y⟩ }
            ∧ h.x.phase = (if s.axis.setPoint.x = s.axis.actual.x then .home else .returningBack)
            ∧ h.y.phase = .seeking))
       ∧ (s.lines.homeX = true → s.lines.homeY = true → s.axis.setPoint = s.axis.actual →
         ∃ t posted, answered t posted
           ∧ t.job = { s.job with state := .idle, sub := none, referenced := true }
           ∧ t.axis.homing = none ∧ t.axis.actual = ⟨s.cfg.homeX, s.cfg.homeY⟩
           ∧ t.axis.setPoint = ⟨s.cfg.homeX, s.cfg.homeY⟩))))
  ∧ (∀ (fbX fbY : Int) (homeX homeY : Bool) (s : State) (c : ConfigRec) (h : Homing), s.job.state = .homing →
      s.config = some c → s.axis.frozen = false → s.axis.stopRun = none → s.axis.homing = some h → h.ending = false →
      h.x.phase ≠ .raising → h.y.phase ≠ .raising →
      (let ax := fbX + s.axis.offset.x
       let ay := fbY + s.axis.offset.y
       let x := homeAxis c.aTraverse c.homeX s.axis.setPoint.x ax homeX h.x
       let y := homeAxis c.aTraverse c.homeY s.axis.setPoint.y ay homeY h.y
       let axis : Axis := { s.axis with
         offset := ⟨s.axis.offset.x + x.shift, s.axis.offset.y + y.shift⟩, setPoint := ⟨x.setPoint, y.setPoint⟩
         actual := ⟨ax + x.shift, ay + y.shift⟩, beyondX := false, beyondY := false }
       WithinWarn c axis.setPoint axis.actual →
       (¬ (x.homing.phase = .home ∧ y.homing.phase = .home) →
         ∃ t posted, exec (.interpolationPeriod fbX fbY homeX homeY) s = .next t
           ∧ t.link = linkAfter s.link posted none ∧ t.job = s.job ∧ t.queue = s.queue ∧ t.jet = s.jet
           ∧ t.axis = { axis with
               homing := some { h with x := x.homing, y := y.homing }
               speed := max x.homing.speed y.homing.speed })
       ∧ (x.homing.phase = .home → y.homing.phase = .home →
         ∃ t posted, exec (.interpolationPeriod fbX fbY homeX homeY) s = .next t
           ∧ t.link = linkAfter s.link posted none
           ∧ t.job = { s.job with state := .idle, sub := none, referenced := true }
           ∧ t.queue = s.queue ∧ t.jet = s.jet ∧ t.axis = { axis with homing := none, speed := 0 })))
  ∧ (∀ (a : Nat) (home setPoint actual : Int) (switch : Bool) (r : LineRun),
      homeAxis a home setPoint actual false { phase := .seeking, run := some r } =
        { homing := { phase := .seeking, run := some (movedOnLine r) }
          setPoint := r.start + r.dir * (((movedOnLine r).pos60 / 60 : Nat) : Int), shift := 0 }
      ∧ (∀ n, r.len = some n → r.pos60 < 60 * n → movedOnLine r ≠ { r with speed := 0 } →
          homeAxis a home setPoint actual switch { phase := .returningStop, run := some r } =
            { homing := { phase := .returningStop, run := some (movedOnLine r) }
              setPoint := r.start + r.dir * (((movedOnLine r).pos60 / 60 : Nat) : Int), shift := 0 }
          ∧ homeAxis a home setPoint actual switch { phase := .returningBack, run := some r } =
            { homing := { phase := .returningBack, run := some (movedOnLine r) }
              setPoint := r.start + r.dir * (((movedOnLine r).pos60 / 60 : Nat) : Int), shift := 0 })
      ∧ (let l := homeAxis a home setPoint actual true { phase := .seeking, run := some r }
         l.shift = home - actual ∧ l.homing.latched = true
         ∧ (∀ d, 0 < r.speed → 0 < a → IsStoppingDistance r.speed a d →
             ∃ q, l.homing = { phase := .returningStop, run := some q } ∧ q.len = some d ∧ q.dir = -1 ∧ q.acc = a
               ∧ q.start = setPoint + (home - actual)))
      ∧ (∀ n, r.len = some n → r.pos60 = 60 * n →
          homeAxis a home setPoint actual switch { phase := .returningStop, run := some r } =
            { homing := if setPoint = home then { phase := .home, run := none } else {
                phase := .returningBack
                run := some {
                  start := setPoint, dir := if setPoint < home then 1 else -1, pos60 := 0, speed := 0
                  len := some (home - setPoint).natAbs, v0 := 0, vmax := 1000, acc := a } }
              setPoint := setPoint, shift := 0 }
          ∧ homeAxis a home setPoint actual switch { phase := .returningBack, run := some r } =
            { homing := { phase := .home, run := none }, setPoint := setPoint, shift := 0 }))

/-- A Pressure taken in IDLE or in HOLD/HELD (R152, R145, Table 8-5): a level byte above 2 is refused with RANGE 1 and a
CUT that names no Material record with NO_SLOT; OFF stops a running pump at once; another level starts an OFF pump, is
latched in STARTING and RAMPING, and in STEADY either takes effect at once, its code being the demand code, or ramps.
The reply carries the demand code the request resolves to. -/
def Obligations.PressureActsByThePumpState : Prop :=
  ∀ (tag : Byte) (level slot : Nat) (s : State), s.hasRoom = true →
    s.job.state = .idle ∨ (s.job.state = .hold ∧ s.job.sub = some .held) →
    (2 < level → ∃ t, exec (.pressure tag level slot) s = .next t ∧ Refused s t tag 0x0D .range (some 1))
    ∧ (level = 2 → s.material slot = none →
        ∃ t, exec (.pressure tag level slot) s = .next t ∧ Refused s t tag 0x0D .noSlot (some slot))
    ∧ (level = 0 → s.pump.state ≠ .off →
        ∃ t posted, exec (.pressure tag level slot) s = .next t ∧ Replied s t tag 0x0D .ok (some 0) false posted
          ∧ t = { s with pump := t.pump, link := t.link }
          ∧ t.pump.state = .off ∧ t.pump.code = 0 ∧ t.pump.latch = none ∧ t.pump.startTimer = none
          ∧ t.pump.rampTimer = none ∧ t.pump.band = none ∧ t.pump.standbyTimer = none ∧ t.pump.offTimer = none)
    ∧ (∀ q : LevelReq,
        (level = 1 ∧ q = { level := .standby, pressure := 0 })
        ∨ (level = 2 ∧ ∃ m, s.material slot = some m ∧ q = { level := .cut, pressure := m.pCut }) →
        ∃ t posted, exec (.pressure tag level slot) s = .next t
          ∧ Replied s t tag 0x0D .ok (some (levelCode s.cfg q)) false posted
          ∧ t = { s with pump := t.pump, link := t.link }
          ∧ (s.pump.state = .off → s.lines.pumpRunning = false →
              t.pump.state = .starting ∧ t.pump.target = q ∧ t.pump.code = 0
              ∧ t.pump.startTimer = some s.cfg.startTimeout)
          ∧ (s.pump.state = .starting ∨ s.pump.state = .ramping →
              t.pump = { s.pump with latch := some q, standbyTimer := none, offTimer := none })
          ∧ (s.pump.state = .steady → levelCode s.cfg q = s.pump.code →
              t.pump.state = .steady ∧ t.pump.target = q ∧ t.pump.current = q.level ∧ t.pump.code = s.pump.code)
          ∧ (s.pump.state = .steady → levelCode s.cfg q ≠ s.pump.code →
              ¬ ReadingWithin s (levelCode s.cfg q) →
              t.pump.state = .ramping ∧ t.pump.target = q ∧ t.pump.code = levelCode s.cfg q
              ∧ t.pump.rampTimer = some s.cfg.rampTimeout ∧ t.pump.current = s.pump.current))

/-- Override (R24, R93): taken in every state, the percent clamped to 10 to 150 and stored, and the reply OK with the
clamped value; the jet-on time stands. Outside RUN and HOLD nothing else changes; in HOLD, and in RUN with the head
moving, the queue and the head's motion so far stand. On a cutting entry in RUN/MOVING or HOLD, with the bed open, the
entry's limit in the plan is that of R83 and R84 at the new percent. Where the present speed exceeds it, a transition
point lies at the distance to slow at a_cut, counted from the whole micrometre the head has reached (log entry 11), the
limit the head was following standing up to it; else there is none. -/
def Obligations.OverrideIsClampedAndStored : Prop :=
  ∀ (tag : Byte) (percent : Nat) (s : State), s.hasRoom = true →
    (let p := if percent < 10 then 10 else if 150 < percent then 150 else percent
     (∃ t posted, exec (.override tag percent) s = .next t ∧ Replied s t tag 0x0E .ok (some p) false posted
        ∧ t.job.override = p ∧ t.tables = s.tables ∧ t.config = s.config ∧ t.wear = s.wear)
     ∧ (s.job.state ≠ .run → s.job.state ≠ .hold →
        ∃ t, exec (.override tag percent) s = .next t ∧ Replied s t tag 0x0E .ok (some p) false []
          ∧ t = { s with job := { s.job with override := p }, link := t.link })
     ∧ ((s.job.state = .run ∧ s.job.sub = some .moving ∧ 0 < s.axis.speed) ∨ s.job.state = .hold →
        ∃ t, exec (.override tag percent) s = .next t ∧ t.job.override = p ∧ t.queue = s.queue
          ∧ t.axis = s.axis)
     ∧ (∀ e es m, (s.job.state = .run ∧ s.job.sub = some .moving) ∨ s.job.state = .hold → BedOpen s →
        s.queue.entries = e :: es → e.kind.cutting = true → s.entryMaterial e = some m → s.queue.recPath = [] →
        s.plan.approach = none → s.axis.stopRun = none → s.axis.homing = none →
        (let limit (q : Nat) := segmentLimit m q (e.quality.getD 5) e.shape
         let former := match s.plan.transition with
           | some u => if ((s.axis.pathPos / 60 : Nat) : Int) < u.pos then u.former else s.job.override
           | none => s.job.override
         ∃ t posted l, exec (.override tag percent) s = .next t ∧ Replied s t tag 0x0E .ok (some p) false posted
           ∧ t.plan.legs.head? = some l ∧ l.limit = limit p
           ∧ (s.axis.speed ≤ limit p → t.plan.transition = none ∧ l.former = limit p)
           ∧ (∀ d, limit p < s.axis.speed → 0 < s.cfg.aCut → IsSlowingDistance s.axis.speed (limit p) s.cfg.aCut d →
               t.plan.transition = some {
                 pos := ((s.axis.pathPos / 60 + d : Nat) : Int), former := former, after := limit p }
               ∧ l.former = limit former))))

/-- Query (R177): the reply carries the Status record of Table 11-7 as the blocks stand, and no block changes. No rule
states its detail word (log entry 2). -/
def Obligations.QueryReadsAndChangesNothing : Prop :=
  ∀ (tag : Byte) (s : State), s.hasRoom = true →
    ∃ t st, exec (.query tag) s = .next t
      ∧ t = { s with link := t.link, freeCount := s.freeCount + 1 }
      ∧ t.link = linkAfter s.link []
          (some (replyOver s tag 0x0F .ok (Config.unstatedDetail s.freeCount) false (.status st)))
      ∧ st.state = s.job.state ∧ st.sub = s.job.sub ∧ st.fault = s.job.fault
      ∧ st.holdReason = s.job.hold.map HoldRecord.reason ∧ st.guardZone = s.job.hold.bind HoldRecord.zone
      ∧ st.actual = s.axis.actual ∧ st.zCmd = s.axis.zCmd ∧ st.zConfirmed = s.axis.zConfirmed
      ∧ st.head = s.queue.entries.head?.map (fun e => (e.seq, e.pidx)) ∧ st.fill = s.queue.entries.length
      ∧ st.free = 256 - s.queue.entries.length ∧ st.expected = s.queue.expected
      ∧ st.pumpState = s.pump.state ∧ st.target = s.pump.target.level ∧ st.code = s.pump.code
      ∧ st.reading = s.lines.reading ∧ st.jet = s.jet.state
      ∧ (st.feeder = true ↔ (s.jet.state = .feeding ∨ s.jet.state = .dwell ∨ s.jet.state = .ramping
          ∨ s.jet.state = .opened) ∧ 0 < s.jet.rate)
      ∧ st.guardA = s.lines.guardA ∧ st.guardB = s.lines.guardB ∧ st.lampA = s.zone.lampA ∧ st.lampB = s.zone.lampB
      ∧ st.kerf = s.wear.kerf ∧ st.minutes = s.wear.minutes ∧ st.alarm = s.wear.alarm
      ∧ st.excursions = s.axis.excursions ∧ st.linkErrors = s.link.errors ∧ st.override = s.job.override
      ∧ st.referenced = s.job.referenced ∧ st.deferred = s.job.deferred
      ∧ (st.wakePending = true ↔ s.pump.state = .starting
          ∨ (s.pump.state = .ramping ∧ s.pump.rampFrom < s.pump.code)
          ∨ ∃ q, s.pump.latch = some q ∧ s.pump.code < levelCode s.cfg q)

/-- Restart (R10, R26, R27, R178). In TRIP with a trip input active it is refused with TRIP_ACTIVE, 1 for ESTOP, 2 for
OVERPRESSURE and 4 for CATCHER added. Otherwise, with no trip input active, the drives ready and the head at rest, the
warm reset acts: the controller, queue and jet take the warm column of Table 1-9, the Configure record, tables, Wear
Counter and override are kept, the pending reports are discarded, the OK reply carries the state produced and the
Announce record waits behind it. A moving head is ordered to stop at a_traverse (R110), from the whole micrometre it has
reached (log entry 11), and so are the axes of a reference run on their lines (R117; log entry 32). With a drive not
ready a configured part is then in FAULT DRIVE (R114). With a trip input active outside TRIP the part is then in TRIP;
that of several active ones ESTOP comes first, then OVERPRESSURE, then CATCHER, is the model's choice (log entry 25),
and so is how the Announce record waits (log entry 18). -/
def Obligations.RestartResetsWarm : Prop :=
  ∀ (tag : Byte) (s : State), s.hasRoom = true →
    (s.job.state = .trip → ¬ NoTrip s.lines →
      ∃ t, exec (.restart tag) s = .next t
        ∧ Refused s t tag 0x10 .tripActive
            (some (s.lines.estop.toNat + 2 * s.lines.overpressure.toNat + 4 * s.lines.catcher.toNat)))
    ∧ (NoTrip s.lines → s.config.isSome → ¬ DrivesReady s.lines →
        ∃ t, exec (.restart tag) s = .next t ∧ t.job.state = .fault ∧ t.axis.frozen = true ∧ t.job.referenced = false
          ∧ t.job.fault = {
              kind := some .drive
              detail := if s.lines.readyX = false then 1 else if s.lines.readyY = false then 2 else 3
              secondary := 0 }
          ∧ t.queue.entries = [] ∧ t.tables = s.tables ∧ t.config = s.config)
    ∧ (s.job.state ≠ .trip → ¬ NoTrip s.lines →
        ∃ t, exec (.restart tag) s = .next t ∧ t.job.state = .trip ∧ t.job.fault.detail = 0
          ∧ t.job.fault.kind = some (if s.lines.estop = true then .estop
              else if s.lines.overpressure = true then .overpressure else .catcher)
          ∧ t.queue.entries = [] ∧ t.pump.state = .off ∧ t.tables = s.tables ∧ t.config = s.config)
    ∧ (NoTrip s.lines → DrivesReady s.lines →
        ∃ t, exec (.restart tag) s = .next t ∧ StopOrdered s t s.cfg.aTraverse
          ∧ HomingStopped s t s.cfg.aTraverse ∧ t.queue.entries = [] ∧ t.axis.setPoint = s.axis.setPoint)
    ∧ (NoTrip s.lines → DrivesReady s.lines → Resting s →
      (let state : CtrlState := if s.config.isSome then .idle else .unconfigured
       let opening := s.jet.state = .dwell ∨ s.jet.state = .ramping ∨ s.jet.state = .opened
         ∨ s.jet.state = .closing ∨ s.lines.valveClosed = false
       ∃ t, exec (.restart tag) s = .next t
         ∧ t.job = {
             state := state, sub := none, hold := none, deferred := false
             fault := { kind := none, detail := 0, secondary := 0 }, residency := none
             override := s.job.override, referenced := s.job.referenced }
         ∧ t.queue.entries = [] ∧ t.queue.expected = 0 ∧ t.queue.history = [] ∧ t.queue.recPath = []
         ∧ (∀ k : Fin 8, t.queue.uses[k] = 0)
         ∧ t.config = s.config ∧ t.tables = s.tables ∧ t.wear = s.wear ∧ t.lines = s.lines ∧ t.pending = s.pending
         ∧ t.axis.setPoint = s.axis.setPoint ∧ t.axis.offset = s.axis.offset ∧ t.axis.frozen = false
         ∧ t.axis.excursions = 0 ∧ t.axis.threshold = false ∧ t.axis.speed = 0
         ∧ (opening → t.jet.state = .closing) ∧ (¬ opening → t.jet.state = .closed)
         ∧ t.jet.seq = none ∧ t.jet.contour = none ∧ t.jet.recovery = none ∧ t.jet.armed = false
         ∧ (s.pump.state = .off → t.pump.state = .off) ∧ t.pump.latch = none ∧ t.pump.band = none
         ∧ (s.pump.state ≠ .off → t.pump.target.level = .standby)
         ∧ t.link = beginNext { s.link with
             reports := []
             replies := s.link.replies
               ++ [replyOver t tag 0x10 .ok (Config.unstatedDetail s.freeCount) false .none]
             announces := s.link.announces ++ [{
               ahead := s.link.replies.length + 1, kind := .warm, configured := s.config.isSome
               tablesKept := decide ((∃ k : Fin 8, s.tables.materials[k].isSome)
                 ∨ (∃ k : Fin 16, s.tables.templates[k].isSome) ∨ s.tables.nozzle.isSome)
               wearKept := true, referenced := s.job.referenced, state := state }] }))

/-! ## Trips, faults and inputs -/

/-- TRIP_INPUT_ACTIVE (R5, R6, R9, R10). Outside TRIP the part enters TRIP from any state: the record takes the kind
with detail 0 and secondary count 0, hold record, deferred hold and residency go, the queue flushes, the valve is
commanded closed (its timer with the state TRIP: log entry 29), a moving head is ordered to stop at a_emergency, nearer
than any stop it was coming to (R110), from the whole micrometre it has reached (log entry 11), the axes of a reference
run decelerate on their lines at a_emergency (R117), also where a line ends before the stopping distance, while a line
on which an ended run already stops keeps that stop when it is nearer (R110; log entry 32), the pump is OFF with code 0,
latch and timers gone, the lamps are OFF, and the referenced flag and the override stand. In TRIP only the input state
changes and the secondary count rises, also for a level that was already active (log entry 9). -/
def Obligations.TripInputTakesThePartToTrip : Prop :=
  ∀ (i : TripInput) (s : State),
    (let kind : FaultKind := match i with
       | .estop => .estop
       | .overpressure => .overpressure
       | .catcher => .catcher
     let lines : Lines := match i with
       | .estop => { s.lines with estop := true }
       | .overpressure => { s.lines with overpressure := true }
       | .catcher => { s.lines with catcher := true }
     (s.job.state ≠ .trip →
       ∃ t posted, exec (.tripInputActive i) s = .next t ∧ t.link = linkAfter s.link posted none
         ∧ t.lines = lines
         ∧ t.job = {
             state := .trip, sub := none, hold := none, deferred := false
             fault := { kind := some kind, detail := 0, secondary := 0 }, residency := none
             override := s.job.override, referenced := s.job.referenced }
         ∧ t.queue.entries = [] ∧ t.queue.expected = 0 ∧ t.queue.history = [] ∧ t.queue.recPath = []
         ∧ (∀ k : Fin 8, t.queue.uses[k] = 0) ∧ t.plan.legs = [] ∧ t.plan.stops = []
         ∧ t.pump.state = .off ∧ t.pump.code = 0 ∧ t.pump.latch = none ∧ t.pump.target.level = .off
         ∧ t.pump.current = .off ∧ t.pump.startTimer = none ∧ t.pump.rampTimer = none
         ∧ t.pump.standbyTimer = none ∧ t.pump.offTimer = none ∧ t.pump.band = none
         ∧ t.jet.contour = none ∧ t.jet.recovery = none ∧ CloseCommanded s t ∧ StopOrdered s t s.cfg.aEmergency
         ∧ HomingStopped s t s.cfg.aEmergency
         ∧ t.zone.lampA = .off ∧ t.zone.lampB = .off
         ∧ t.tables = s.tables ∧ t.config = s.config ∧ t.wear = s.wear)
     ∧ (s.job.state = .trip → s.zone.lampA = .off → s.zone.lampB = .off →
       ∃ t posted, exec (.tripInputActive i) s = .next t ∧ t.link = linkAfter s.link posted none
         ∧ t = { s with
             lines := lines, link := t.link
             job := { s.job with
               fault := { s.job.fault with secondary := min 65535 (s.job.fault.secondary + 1) } } }))

/-- The events that only set what they name: a trip input becoming inactive changes the trip input state and nothing
else (R10), a drive-ready input becoming active changes only its input state (R114), and the end of the residency stops
its timer (R8). -/
def Obligations.InputsThatOnlySetTheirState : Prop :=
  ∀ (s : State),
    exec (.tripInputInactive .estop) s = .next { s with lines := { s.lines with estop := false } }
    ∧ exec (.tripInputInactive .overpressure) s = .next { s with lines := { s.lines with overpressure := false } }
    ∧ exec (.tripInputInactive .catcher) s = .next { s with lines := { s.lines with catcher := false } }
    ∧ exec (.driveReadyActive .x) s = .next { s with lines := { s.lines with readyX := true } }
    ∧ exec (.driveReadyActive .y) s = .next { s with lines := { s.lines with readyY := true } }
    ∧ exec (.driveReadyActive .z) s = .next { s with lines := { s.lines with readyZ := true } }
    ∧ exec .residencyExpiry s = .next { s with job := { s.job with residency := none } }

/-- DRIVE_READY_INACTIVE (R5, R7, R21, R111, R114): with no Configure record in force only the input state changes; in
IDLE to ABORTING with one, the part enters FAULT of kind DRIVE with the axis as detail, 1, 2 or 3, the set-points frozen
where they stand, the referenced flag cleared, the queue flushed and the residency at 2,000 ms. The valve is commanded
closed (R7, R131): from DWELL, RAMPING or OPEN the jet is CLOSING, its valve timer with the state FAULT (log entry 29),
the monitor disarmed and the rate 0, a sequence ended. A running pump's target becomes STANDBY. -/
def Obligations.DriveNotReadyFaultsAndFreezes : Prop :=
  ∀ (a : AxisName) (s : State),
    (let lines : Lines := match a with
       | .x => { s.lines with readyX := false }
       | .y => { s.lines with readyY := false }
       | .z => { s.lines with readyZ := false }
     let number := match a with
       | .x => 1
       | .y => 2
       | .z => 3
     (s.config = none → s.job.state = .unconfigured → s.zone.lampA = .off → s.zone.lampB = .off →
       ∃ t, exec (.driveReadyInactive a) s = .next t ∧ t = { s with lines := lines, link := beginNext s.link })
     ∧ (s.config.isSome → s.job.state = .idle ∨ s.job.state = .homing ∨ s.job.state = .run ∨ s.job.state = .hold
          ∨ s.job.state = .aborting →
       ∃ t posted, exec (.driveReadyInactive a) s = .next t ∧ t.link = linkAfter s.link posted none
         ∧ t.lines = lines
         ∧ t.job = {
             state := .fault, sub := none, hold := none, deferred := false
             fault := { kind := some .drive, detail := number, secondary := 0 }, residency := some 2000
             override := s.job.override, referenced := false }
         ∧ t.axis.frozen = true ∧ t.axis.speed = 0 ∧ t.axis.setPoint = s.axis.setPoint ∧ t.axis.stopRun = none
         ∧ t.axis.homing = none ∧ t.queue.entries = [] ∧ t.queue.expected = 0 ∧ t.queue.history = []
         ∧ t.queue.recPath = [] ∧ (∀ k : Fin 8, t.queue.uses[k] = 0) ∧ CloseCommanded s t
         ∧ t.jet.contour = none ∧ t.jet.incomplete = false ∧ t.jet.recovery = none
         ∧ (s.pump.state ≠ .off → t.pump.target.level = .standby)
         ∧ t.tables = s.tables ∧ t.config = s.config ∧ t.wear = s.wear))

/-- Z_REACHED_CHANGE in IDLE with no sequence or reference run (R107): while PENDING the input reaching the commanded
position confirms it and stops the timer; while CONFIRMED the input leaving it makes the confirmation PENDING and starts
the timer in full; any other change stands as it was. -/
def Obligations.ZConfirmationFollowsTheInput : Prop :=
  ∀ (z : Option ZPos) (s : State), s.job.state = .idle → s.jet.state = .closed → s.axis.homing = none →
    ∃ t posted, exec (.zReachedChange z) s = .next t ∧ t.link = linkAfter s.link posted none
      ∧ t = { s with
          lines := { s.lines with zReached := z }, zone := withLampsOf t s, link := t.link
          axis :=
            if z = some s.axis.zCmd ∧ s.axis.zConfirmed = false then
              { s.axis with zConfirmed := true, zTimer := none }
            else if z ≠ some s.axis.zCmd ∧ s.axis.zConfirmed = true then
              { s.axis with zConfirmed := false, zTimer := some s.cfg.zTimeout }
            else s.axis }

/-- Z_TIMEOUT and HOMING_TIMEOUT (R107, R117): a Z timer that runs out while PENDING raises Z_TIMEOUT with the commanded
position as detail, 1 CLEAR, 2 PIERCE, 3 CUT; a homing timer that runs out raises HOMING with the axes that have not
latched, 1 for X, 2 for Y. In IDLE, HOMING, RUN and HOLD the part is then in FAULT with its queue flushed, the valve
commanded closed, a running pump's target STANDBY and a moving head ordered to stop at a_traverse (R7, R110, R131; the
state recorded with the valve timer is log entry 29's, and the stop lies at the stopping distance from the whole
micrometre reached, log entry 11), and the reference run is ended, its axes decelerating on their lines at a_traverse
(R117; log entry 32); with the Z timer stopped nothing but the lamps is looked at: the model's choice (log entry 8). -/
def Obligations.ZAndHomingTimeoutsFault : Prop :=
  ∀ (s : State), s.job.state = .idle ∨ s.job.state = .homing ∨ s.job.state = .run ∨ s.job.state = .hold →
    s.axis.frozen = false →
    (let faulted (t : State) (k : FaultKind) (d : Nat) : Prop :=
       t.job = {
           state := .fault, sub := none, hold := none, deferred := false
           fault := { kind := some k, detail := d, secondary := 0 }, residency := some 2000
           override := s.job.override, referenced := s.job.referenced }
       ∧ t.queue.entries = [] ∧ t.queue.expected = 0 ∧ CloseCommanded s t ∧ StopOrdered s t s.cfg.aTraverse
       ∧ HomingStopped s t s.cfg.aTraverse
       ∧ (s.pump.state ≠ .off → t.pump.target.level = .standby) ∧ t.tables = s.tables
       ∧ t.config = s.config ∧ t.wear = s.wear ∧ t.axis.setPoint = s.axis.setPoint
     let z := match s.axis.zCmd with
       | .clear => 1
       | .pierce => 2
       | .cut => 3
     (s.axis.zTimer.isSome → s.axis.zConfirmed = false →
       ∃ t, exec .zTimeout s = .next t ∧ faulted t .zTimeout z)
     ∧ (s.axis.zTimer = none → ∃ t, exec .zTimeout s = .next t ∧ t = { s with zone := withLampsOf t s, link := t.link })
     ∧ (∀ h ms, s.axis.homing = some h → h.timer = some ms →
       ∃ t, exec .homingTimeout s = .next t
         ∧ faulted t .homing ((if h.x.phase = .raising ∨ h.x.phase = .seeking then 1 else 0)
             + (if h.y.phase = .raising ∨ h.y.phase = .seeking then 2 else 0))
         ∧ (∀ g, t.axis.homing = some g → g.ending = true ∧ g.timer = none)))

/-! ## The interpolation period -/

/-- INTERPOLATION_PERIOD with the head at rest in a configured IDLE (R102, R104, R112, R113): the actual positions are
the feedback plus the offset, no step is taken, a period in which the error of either axis exceeds the warn limit adds 1
to the excursion count, and a beyond flag follows its error. A flag that becomes set raises FOLLOWING with detail 1 for
X, or 2 for Y alone; else a count that reaches its threshold raises it once, with 17 or 18. -/
def Obligations.PeriodAtRestWatchesTheAxes : Prop :=
  ∀ (fbX fbY : Int) (homeX homeY : Bool) (s : State) (c : ConfigRec), s.job.state = .idle → s.config = some c →
    s.axis.frozen = false → Resting s →
    (let ax := fbX + s.axis.offset.x
     let ay := fbY + s.axis.offset.y
     let ex := errorOf s.axis.setPoint.x ax
     let ey := errorOf s.axis.setPoint.y ay
     let excursion := c.warnLimit < ex ∨ c.warnLimit < ey
     let count := if excursion then min 65535 (s.axis.excursions + 1) else s.axis.excursions
     let limitX := c.faultLimit < ex ∧ s.axis.beyondX = false
     let limitY := c.faultLimit < ey ∧ s.axis.beyondY = false
     let threshold := excursion ∧ c.excursionThreshold ≤ count ∧ s.axis.threshold = false
     let lines : Lines := { s.lines with feedback := ⟨fbX, fbY⟩, homeX := homeX, homeY := homeY }
     (¬ limitX → ¬ limitY → ¬ threshold →
       ∃ t posted, exec (.interpolationPeriod fbX fbY homeX homeY) s = .next t
         ∧ t.link = linkAfter s.link posted none
         ∧ t = { s with
             lines := lines, plan := t.plan, zone := withLampsOf t s, link := t.link
             axis := { s.axis with
               actual := ⟨ax, ay⟩, excursions := count, beyondX := decide (c.faultLimit < ex)
               beyondY := decide (c.faultLimit < ey) } })
     ∧ (∀ d, (limitX ∧ d = 1) ∨ (¬ limitX ∧ limitY ∧ d = 2)
           ∨ (¬ limitX ∧ ¬ limitY ∧ threshold ∧ d = (if c.warnLimit < ex then 17 else 18)) →
       ∃ t posted, exec (.interpolationPeriod fbX fbY homeX homeY) s = .next t
         ∧ t.link = linkAfter s.link posted none
         ∧ t.job = {
             state := .fault, sub := none, hold := none, deferred := false
             fault := { kind := some .following, detail := d, secondary := 0 }, residency := some 2000
             override := s.job.override, referenced := false }
         ∧ t.axis.frozen = true ∧ t.axis.setPoint = s.axis.setPoint ∧ t.axis.actual = ⟨ax, ay⟩
         ∧ t.axis.excursions = count ∧ t.lines = lines ∧ t.queue.entries = []))

/-- INTERPOLATION_PERIOD in RUN/MOVING within an entry (R41, R103, R105, R106): the step is the greater of the planned
speeds at the whole micrometre at or behind the head and at the one next ahead, lowered to the distance to the nearest
planned stop; the path position advances by it, the speed becomes it, the progress is the whole micrometres travelled
and the set-point the point there. No entry retires, and the part stays in RUN/MOVING. The head is moving, the step does
not reach the end of the entry, no junction of limit 0 has just been reached (log entry 12), and the errors, judged
against the set-point after the step (log entry 27), stay within the warn limit. The planned speed at every whole
micrometre is the greatest that exceeds neither the segment limit there nor any bound of R89 and R90: of the next stop,
of the junctions up to it, of a creep stretch and of a transition point (R91, R93; log entry 16), and from what lies
behind, junctions and stops alike (log entry 10). The plan made over a queue has for each entry the limit of R83 to R85
and between entries the junction limit of R87 and Table 5-2, from the tangents and the deflection of R86. -/
def Obligations.PeriodAdvancesAlongTheEntry : Prop :=
  (∀ (fbX fbY : Int) (homeX homeY : Bool) (s : State) (c : ConfigRec) (l : Leg) (ls : List Leg) (sh : Shape),
    s.job.state = .run → s.job.sub = some .moving → s.config = some c → s.axis.frozen = false →
    s.axis.stopRun = none → s.axis.homing = none → 0 < s.axis.speed → s.plan.legs = l :: ls → l.kind = .entry →
    l.isEnd = false → l.base = 0 → l.shape = some sh → sh.length = l.len → s.queue.recPath = [] →
    s.queue.recBack = false → s.jet.recovery = none →
    (∀ a ∈ s.plan.anchors, 60 * a.pos = (s.axis.pathPos : Int) → a.speed ≠ 0) →
    (let x : Int := ((s.axis.pathPos / 60 : Nat) : Int)
     let step := min (max (planSpeed c s.plan x) (planSpeed c s.plan (x + 1)))
       (distanceAhead c s.plan s.axis.pathPos)
     let pos := s.axis.pathPos + step
     let point := if sh.length ≤ pos / 60 then sh.stop else pointAt sh (pos / 60)
     0 < step → pos < 60 * l.len →
     errorOf point.x (fbX + s.axis.offset.x) ≤ c.warnLimit → errorOf point.y (fbY + s.axis.offset.y) ≤ c.warnLimit →
     c.warnLimit ≤ c.faultLimit →
     ∃ t posted, exec (.interpolationPeriod fbX fbY homeX homeY) s = .next t
       ∧ t.link = linkAfter s.link posted none
       ∧ t.job = s.job
       ∧ t.axis = { s.axis with
           actual := ⟨fbX + s.axis.offset.x, fbY + s.axis.offset.y⟩, pathPos := pos, speed := step
           setPoint := point, beyondX := false, beyondY := false }
       ∧ t.queue = { s.queue with progress := pos / 60 }
       ∧ t.tables = s.tables ∧ t.config = s.config ∧ t.wear = s.wear ∧ t.plan.legs = s.plan.legs
       ∧ t.plan.stops.map Stop.pos = s.plan.stops.map Stop.pos))
  ∧ (∀ (c : ConfigRec) (p : Plan) (x : Int) (i : Nat) (l : Leg), p.legs[i]? = some l → legStart p.legs i ≤ x →
      x < legStart p.legs (i + 1) ∨ i + 1 = p.legs.length →
      MeetsEveryBound c p l x (planSpeed c p x) ∧ ∀ v, MeetsEveryBound c p l x v → v ≤ planSpeed c p x)
  ∧ (∀ s : State, s.queue.recPath = [] → s.plan.approach = none → PlannedOverQueue s (planLegs s))
  ∧ DeflectionRule

/-! ## The jet -/

/-- The stages of a STATIONARY and of a MOVING pierce (R91, R123 to R126, R128). SETTLE_TIMER_EXPIRY in PREPARING:
FEEDING with the lead timer in full, the rate above 0. LEAD_TIMER_EXPIRY in FEEDING: the valve opens into DWELL with the
dwell timer, the pierce is incomplete, the contour record is made, the Wear Counter and the Pump Manager are told and
the monitor armed. DWELL_TIMER_EXPIRY in DWELL: RAMPING, with the CUT level asked for. For a MOVING pierce no dwell
timer runs: the creep stretch and its CREEP stop lie at floor(m × dwell / 60) µm, or at a nearer planned stop, one at
the end of an entry of length 0 before the head among them. The period in which the head stands at the CREEP stop ends
the dwell in RAMPING, with the CUT level asked for, unless a ZONE stop inside the contour stands there too (log entry
48); so does the one that completes an entry of length 0 before it, which retires (R105; log entry 12). The reading that
makes the pump STEADY at CUT commands Z to CUT. CUT confirmed with that opens the jet (R128): the sequence ends, the
pierce is complete, the creep stretch goes, and RUN/PIERCING becomes RUN/MOVING, the jet OPEN unless a stop that ends
the cut lies within close-ahead. With a hold deferred it is taken there instead (R14): HOLD/STOPPING with reason HOST,
the hold stop at the head, the valve commanded closed at once, its timer with the state HOLD (log entry 29). -/
def Obligations.StageTimersAdvanceThePierce : Prop :=
  ∀ (s : State) (q : SeqRecord) (ms : Nat), s.job.state = .run → s.job.sub = some .piercing → s.jet.seq = some q →
    (s.jet.state = .preparing → q.timer = some (.settle ms) → 0 < q.rate → 0 < s.cfg.abrasiveLead →
      ∃ t posted, exec .settleTimerExpiry s = .next t ∧ t.link = linkAfter s.link posted none
        ∧ t = { s with
            jet := { s.jet with
              state := .feeding, seq := some { q with timer := some (.lead s.cfg.abrasiveLead) } }
            zone := withLampsOf t s, link := t.link })
    ∧ (s.jet.state = .feeding → q.timer = some (.lead ms) → q.kind = .pierce → q.method = some .stationary →
        0 < q.dwell → 0 < q.rate → s.jet.contour = none → s.queue.recPath = [] →
      ∃ t posted, exec .leadTimerExpiry s = .next t ∧ t.link = linkAfter s.link posted none
        ∧ t.job = s.job ∧ t.queue = s.queue ∧ t.axis = s.axis
        ∧ t.jet = { s.jet with
            state := .dwell, seq := some { q with timer := some (.dwell q.dwell) }, incomplete := true
            contour := some { start := 0, method := some .stationary }
            armed := true, window := some s.cfg.abrasiveWindow, lastPulse := some s.queue.progress }
        ∧ t.wear = { s.wear with timing := true } ∧ t.pump.valveOpen = true ∧ t.pump.code = s.pump.code
        ∧ t.pump.state = s.pump.state)
    ∧ (s.jet.state = .dwell → q.timer = some (.dwell ms) → s.pump.state = .steady → s.pump.current = .pierce →
        demandCode s.cfg q.pCut ≠ s.pump.code → ¬ ReadingWithin s (demandCode s.cfg q.pCut) →
      ∃ t posted, exec .dwellTimerExpiry s = .next t ∧ t.link = linkAfter s.link posted none
        ∧ t.job = s.job ∧ t.queue = s.queue ∧ t.axis = s.axis
        ∧ t.jet = { s.jet with state := .ramping, seq := some { q with timer := none } }
        ∧ t.pump.state = .ramping ∧ t.pump.target = { level := .cut, pressure := q.pCut }
        ∧ t.pump.code = demandCode s.cfg q.pCut ∧ t.pump.rampTimer = some s.cfg.rampTimeout)
    ∧ (∀ x : Nat, s.jet.state = .feeding → q.timer = some (.lead ms) → q.kind = .pierce → q.method = some .moving →
        0 < q.dwell → 0 < q.rate → s.jet.contour = none → s.queue.recPath = [] → s.axis.pathPos = 60 * x →
      ∃ t posted k, exec .leadTimerExpiry s = .next t ∧ t.link = linkAfter s.link posted none
        ∧ t.job = s.job ∧ t.queue = s.queue ∧ t.axis = s.axis
        ∧ t.jet = { s.jet with
            state := .dwell, seq := some { q with timer := none }, incomplete := true
            contour := some { start := 0, method := some .moving }
            armed := true, window := some s.cfg.abrasiveWindow, lastPulse := some s.queue.progress }
        ∧ t.wear = { s.wear with timing := true } ∧ t.pump.valveOpen = true
        ∧ t.plan.creep = some k ∧ k.limit = max 1 q.creepSpeed
        ∧ StopLies (s.plan.allStops.filter (NotStoodAt (x : Int))) s.axis.pathPos (q.creepSpeed * q.dwell / 60) k.stop
        ∧ ∃ u ∈ t.plan.stops, u.kind = .creep ∧ u.pos = k.stop ∧ u.decel = s.cfg.aCut)
    ∧ (∀ c u fbX fbY homeX homeY, s.jet.state = .dwell → s.config = some c → s.axis.frozen = false →
        s.axis.stopRun = none → s.axis.homing = none → s.queue.recBack = false → u ∈ s.plan.stops → u.kind = .creep →
        60 * u.pos = (s.axis.pathPos : Int) → s.pump.state = .steady → s.pump.current = .pierce →
        demandCode c q.pCut ≠ s.pump.code → ¬ ReadingWithin s (demandCode c q.pCut) →
      (let actual : Point := ⟨fbX + s.axis.offset.x, fbY + s.axis.offset.y⟩
       let ramps (t : State) (posted : List Report) : Prop :=
         exec (.interpolationPeriod fbX fbY homeX homeY) s = .next t ∧ t.link = linkAfter s.link posted none
         ∧ t.job = s.job ∧ t.axis.speed = 0 ∧ t.axis.pathPos = s.axis.pathPos
         ∧ t.jet = { s.jet with state := .ramping, seq := some { q with timer := none } }
         ∧ t.pump.state = .ramping ∧ t.pump.target = { level := .cut, pressure := q.pCut }
         ∧ t.pump.code = demandCode c q.pCut ∧ t.pump.rampTimer = some c.rampTimeout
       ((∀ v ∈ s.plan.stops, 60 * v.pos = (s.axis.pathPos : Int) → v.kind ≠ .zone ∨ v.inside = false) →
          (∀ l, s.plan.legs.head? = some l → l.len = 0 →
            l.isEnd = true ∨ (l.isTraverse = true ∧ s.axis.pathPos = 0 ∧ s.axis.zCmd ≠ .clear)) →
          WithinWarn c (pointHere s) actual →
        ∃ t posted, ramps t posted ∧ t.queue = s.queue)
       ∧ (∀ e es l ls sh k, s.axis.speed = 0 → s.axis.pathPos = 0 → s.queue.recPath = [] → s.plan.creep.isSome →
          s.jet.contour = some k → s.queue.entries = e :: es → s.plan.legs = l :: ls → l.kind = .entry →
          l.cutting = true → l.isEnd = false → l.base = 0 → l.len = 0 → l.shape = some sh → sh.length = 0 →
          e.kind.cutting = true → e.shape = some sh →
          (∀ m, ls.head? = some m → m.cutting = true → 0 < m.len) →
          (∀ v ∈ s.plan.allStops, v.pos = 0 → v.kind ≠ .restart ∧ v.kind ≠ .zone) → WithinWarn c sh.stop actual →
        ∃ t posted, ramps t posted ∧ t.queue.entries = es ∧ t.axis.setPoint = sh.stop
          ∧ (e.report = true → Report.retired e.seq e.pidx e.tag ∈ posted))))
    ∧ (∀ mpa, s.jet.state = .ramping → s.pump.state = .ramping → s.pump.target.level = .cut → s.pump.latch = none →
        WithinTolerance s.cfg.tolerance s.pump.code mpa → s.axis.zCmd ≠ .cut → s.lines.zReached ≠ some .cut →
      ∃ t posted, exec (.transducerReading mpa) s = .next t ∧ t.link = linkAfter s.link posted none
        ∧ t.job = s.job ∧ t.jet = s.jet ∧ t.pump.state = .steady ∧ t.pump.current = .cut
        ∧ t.axis = { s.axis with zCmd := .cut, zConfirmed := false, zTimer := some s.cfg.zTimeout })
    ∧ (s.jet.state = .ramping → s.pump.state = .steady → s.pump.current = .cut → s.axis.homing = none →
        s.axis.zCmd = .cut → s.axis.zConfirmed = false →
      (s.job.deferred = false → BedOpen s →
        ∃ t posted, exec (.zReachedChange (some .cut)) s = .next t ∧ t.link = linkAfter s.link posted none
          ∧ t.job = { s.job with sub := some .moving } ∧ t.queue = s.queue
          ∧ t.axis = { s.axis with zConfirmed := true, zTimer := none }
          ∧ t.jet.seq = none ∧ t.jet.incomplete = false ∧ t.jet.contour = s.jet.contour
          ∧ t.pump.inSequence = false ∧ t.pump.state = .steady ∧ t.pump.code = s.pump.code ∧ t.plan.creep = none
          ∧ ((∀ u ∈ t.plan.allStops, u.inside = true → 60 * u.pos < (s.axis.pathPos : Int)
                ∨ (if s.cfg.closeAhead = 0 then 60 * u.pos ≠ (s.axis.pathPos : Int) ∨ 0 < s.axis.speed
                   else (s.axis.pathPos : Int) < 60 * (u.pos - s.cfg.closeAhead))) →
              t.jet = { s.jet with
                state := .opened, incomplete := false, seq := none, cutEntry := some q.entry }))
      ∧ (∀ x, s.job.deferred = true → s.axis.speed = 0 → s.axis.pathPos = 60 * x → s.config.isSome →
        ∃ t posted, exec (.zReachedChange (some .cut)) s = .next t ∧ t.link = linkAfter s.link posted none
          ∧ t.job = { s.job with
              state := .hold, sub := some .stopping, hold := some { reason := .host, zone := none }
              deferred := false }
          ∧ t.queue = s.queue ∧ t.axis = { s.axis with zConfirmed := true, zTimer := none }
          ∧ (∃ u, t.plan.holdStop = some u ∧ u.pos = (x : Int))
          ∧ t.jet = { s.jet with
              state := .closing, incomplete := false, seq := none, cutEntry := none, rate := 0, armed := false
              window := none, valveTimer := some (s.cfg.valveTimeout, .hold) }
          ∧ t.pump.inSequence = false))

/-- The valve-closed switch and the valve timer (R121, R129, R131, R132, R166). VALVE_SWITCH_ACTIVE in CLOSING with no
sequence waiting: the jet is CLOSED, the timer stopped and the neighbours told. VALVE_SWITCH_INACTIVE in CLOSED: the
valve is taken to have opened: CLOSING with the timer in full and the neighbours told. VALVE_TIMER_EXPIRY in CLOSING:
the VALVE fault with the number of the state in which the close was commanded in IDLE, and the VALVE trip with detail 0
in ABORTING, or with the number of the fault being handled in FAULT. -/
def Obligations.ValveSwitchAndTimer : Prop :=
  ∀ (s : State),
    (s.jet.state = .closing → s.jet.seq = none → s.job.state = .idle →
      ∃ t posted, exec .valveSwitchActive s = .next t ∧ t.link = linkAfter s.link posted none
        ∧ t.pump.valveOpen = false ∧ t.pump.state = s.pump.state ∧ t.pump.code = s.pump.code
        ∧ t = { s with
            lines := { s.lines with valveClosed := true }
            jet := { s.jet with state := .closed, valveTimer := none }
            wear := { s.wear with timing := false }
            pump := t.pump, zone := withLampsOf t s, link := t.link })
    ∧ (s.jet.state = .closed →
      ∃ t, exec .valveSwitchInactive s = .next t ∧ t.link = beginNext s.link
        ∧ t.pump.valveOpen = true ∧ t.pump.state = s.pump.state ∧ t.pump.code = s.pump.code
        ∧ t = { s with
            lines := { s.lines with valveClosed := false }
            jet := { s.jet with
              state := .closing
              valveTimer := if s.config.isSome then some (s.cfg.valveTimeout, s.job.state) else none }
            wear := { s.wear with timing := true }
            pump := t.pump, link := t.link })
    ∧ (∀ ms st, s.jet.state = .closing → s.jet.valveTimer = some (ms, st) →
      (s.job.state = .idle →
        ∃ t, exec .valveTimerExpiry s = .next t ∧ t.job.state = .fault ∧ t.jet.valveTimer = none
          ∧ t.job.fault = { kind := some .valve, detail := st.number, secondary := 0 }
          ∧ t.job.residency = some 2000)
      ∧ (s.job.state = .aborting →
        ∃ t, exec .valveTimerExpiry s = .next t ∧ t.job.state = .trip ∧ t.pump.state = .off
          ∧ t.job.fault = { kind := some .valveTrip, detail := 0, secondary := 0 })
      ∧ (∀ k, s.job.state = .fault → s.job.fault.kind = some k →
        ∃ t, exec .valveTimerExpiry s = .next t ∧ t.job.state = .trip ∧ t.pump.state = .off
          ∧ t.job.fault = { kind := some .valveTrip, detail := k.number, secondary := 0 }))

/-- ABRASIVE_PULSE and ABRASIVE_WINDOW_EXPIRY (R135, R136, R140): an armed monitor takes the present contour distance
and its window in full at a pulse, and a disarmed one takes nothing. The window's expiry disarms an armed monitor; in
RUN/MOVING with no recovery pending the part is in HOLD/STOPPING with reason ABRASIVE, and with one pending it is in
FAULT with ABRASIVE_REPEAT and the executing entry's sequence number. The jet closing at a JET_OFF or END stop that lies
at s_stop, the head there and no entry of length 0 left to be cut before it, ends a pending recovery, in RUN and in HOLD
alike, by the period or by the valve switch that reports before it; at an END the switch retires the END too, and the
part enters IDLE with no recovery pending (R43; log entry 47). -/
def Obligations.AbrasiveMonitorHoldsTheJob : Prop :=
  ∀ (s : State),
    (s.jet.armed = false → exec .abrasivePulse s = .next s ∧
      ∃ t, exec .abrasiveWindowExpiry s = .next t ∧ t = { s with link := beginNext s.link })
    ∧ (∀ c, s.jet.armed = true → s.jet.contour = some c → s.queue.recPath = [] →
        exec .abrasivePulse s = .next { s with
          jet := { s.jet with
            window := some s.cfg.abrasiveWindow, lastPulse := some (c.start + s.queue.progress) } })
    ∧ (∀ e es, s.jet.armed = true → s.job.state = .run → s.job.sub = some .moving → 0 < s.axis.speed →
        s.job.hold = none → s.queue.entries = e :: es →
        ((∀ r, s.jet.recovery = some r → r.isPending = false) →
          ∃ t posted, exec .abrasiveWindowExpiry s = .next t ∧ t.link = linkAfter s.link posted none
            ∧ t.job = { s.job with
                state := .hold, sub := some .stopping, hold := some { reason := .abrasive, zone := none }
                deferred := false }
            ∧ Report.hold (some .abrasive) none ∈ posted ∧ t.jet.armed = false ∧ t.jet.window = none
            ∧ t.jet.lastPulse = s.jet.lastPulse ∧ t.queue = s.queue ∧ t.axis = s.axis)
        ∧ (∀ r, s.jet.recovery = some r → r.isPending = true →
          ∃ t, exec .abrasiveWindowExpiry s = .next t ∧ t.job.state = .fault ∧ t.job.residency = some 2000
            ∧ t.job.fault = { kind := some .abrasiveRepeat, detail := e.seq.toNat, secondary := 0 }
            ∧ t.queue.entries = []))
    ∧ (∀ fbX fbY homeX homeY c r k u, s.config = some c → s.axis.frozen = false → Resting s → s.queue.recPath = [] →
        s.queue.recBack = false → s.jet.recovery = some r → r.isPending = true → s.jet.contour = some k →
        k.start + s.queue.progress = r.sStop → s.jet.state = .closing ∨ s.jet.state = .closed → NoZeroCut s →
        u ∈ s.plan.stops → u.kind = .jetOff ∨ u.kind = .segEnd → 60 * u.pos = (s.axis.pathPos : Int) →
        WithinWarn c (pointHere s) ⟨fbX + s.axis.offset.x, fbY + s.axis.offset.y⟩ →
      (let ends (t : State) (posted : List Report) : Prop :=
         exec (.interpolationPeriod fbX fbY homeX homeY) s = .next t ∧ t.link = linkAfter s.link posted none
         ∧ t.queue = s.queue ∧ t.jet = { s.jet with recovery := none }
       (∀ h, s.job.state = .hold → s.job.sub = some .stopping → s.plan.holdStop = some h →
           60 * h.pos = (s.axis.pathPos : Int) →
         (∃ t posted, ends t posted
           ∧ t.job = { s.job with sub := some (if s.jet.state = .closed then .held else .stopping) })
         ∧ (s.jet.state = .closing → s.jet.seq = none →
           ∃ t posted, exec .valveSwitchActive s = .next t ∧ t.link = linkAfter s.link posted none
             ∧ t.job = { s.job with sub := some .held }
             ∧ t.jet = { s.jet with state := .closed, valveTimer := none, recovery := none }))
       ∧ (∀ e es l ls, s.job.state = .run → s.job.sub = some .moving → u.kind = .jetOff → s.axis.pathPos = 0 →
           s.plan.approach = none → BedOpen s → s.queue.entries = e :: es → e.kind = .traverse →
           s.plan.legs = l :: ls → l.isTraverse = true →
         (0 < l.len ∨ s.axis.zCmd ≠ .clear → ∃ t posted, ends t posted ∧ t.job = s.job ∧ t.axis.zCmd = .clear)
         ∧ (s.jet.state = .closing → s.jet.seq = none →
           ∃ t posted, exec .valveSwitchActive s = .next t ∧ t.link = linkAfter s.link posted none ∧ t.job = s.job
             ∧ t.queue = s.queue
             ∧ t.jet = { s.jet with state := .closed, valveTimer := none, recovery := none }))
       ∧ (∀ e es, s.job.state = .run → s.job.sub = some .moving → s.axis.pathPos = 0 → s.plan.approach = none →
           s.queue.entries = e :: es → e.kind = .segEnd → s.jet.state = .closing → s.jet.seq = none →
         ∃ t posted, exec .valveSwitchActive s = .next t ∧ t.link = linkAfter s.link posted none
           ∧ t.job = { s.job with state := .idle, sub := none } ∧ t.queue.entries = es
           ∧ t.jet = { s.jet with state := .closed, valveTimer := none, contour := none, recovery := none }
           ∧ (e.report = true → Report.retired e.seq e.pidx e.tag ∈ posted))))

/-! ## The pump -/

/-- PUMP_RUNNING_ACTIVE, START_TIMER_EXPIRY and RAMP_TIMER_EXPIRY in IDLE (R146, R147). In STARTING the input takes the
latched request, or stands by the target, and the pump ramps toward its code with the ramp timer in full; found in OFF
it only sets the input state. The start timer's expiry stops the pump and raises PUMP_START with the start timeout in
force; the ramp timer's stops it and raises PUMP_RAMP with the last reading. -/
def Obligations.PumpStartsRampsOrFaults : Prop :=
  ∀ (s : State), s.job.state = .idle → s.jet.state = .closed →
    (s.pump.state = .off →
      exec .pumpRunningActive s = .next { s with lines := { s.lines with pumpRunning := true } })
    ∧ (∀ q, s.pump.state = .starting → q = s.pump.latch.getD s.pump.target →
        ¬ ReadingWithin s (levelCode s.cfg q) →
      ∃ t posted, exec .pumpRunningActive s = .next t ∧ t.link = linkAfter s.link posted none
        ∧ t.pump = { s.pump with
            state := .ramping, target := q, latch := none, code := levelCode s.cfg q, rampFrom := s.pump.code
            startTimer := none, rampTimer := some s.cfg.rampTimeout, band := none, standbyTimer := none
            offTimer := none }
        ∧ t = { s with
            lines := { s.lines with pumpRunning := true }, pump := t.pump, zone := withLampsOf t s, link := t.link })
    ∧ (∀ ms, s.pump.state = .starting → s.pump.startTimer = some ms →
      ∃ t, exec .startTimerExpiry s = .next t ∧ t.pump.state = .off ∧ t.pump.code = 0 ∧ t.pump.latch = none
        ∧ t.job.state = .fault ∧ t.job.residency = some 2000
        ∧ t.job.fault = { kind := some .pumpStart, detail := min 65535 s.cfg.startTimeout, secondary := 0 })
    ∧ (∀ ms, s.pump.state = .ramping → s.pump.rampTimer = some ms →
      ∃ t, exec .rampTimerExpiry s = .next t ∧ t.pump.state = .off ∧ t.pump.code = 0 ∧ t.pump.latch = none
        ∧ t.job.state = .fault ∧ t.job.residency = some 2000
        ∧ t.job.fault = { kind := some .pumpRamp, detail := s.lines.reading, secondary := 0 })

/-- TRANSDUCER_READING, PUMP_RUNNING_INACTIVE and the band, standby and off timers (R147 to R151), in IDLE with the jet
CLOSED or CLOSING and in RUN with the jet OPEN. A reading within tolerance of the demand pressure ends RAMPING: with the
latch empty the pump is STEADY at its target; with a latched request of another code it ramps on to that code. In STEADY
with the valve open a reading below the band starts the band timer as a dip and a lower one deepens it, one above starts
a drift and one within stops it; with the valve closed a reading outside the band starts a drift. The running input lost
in STEADY or RAMPING restarts the pump with the valve closed, and raises PRESSURE_LOST with the reading while it is
open; elsewhere only the input state changes. The band timer's expiry raises PRESSURE_LOST with a dip's lowest reading,
and after a drift ramps again toward the same code. The standby timer's asks for STANDBY, toward whose code the pump
ramps, and the off timer's turns it OFF. A reading is judged by the tolerance of the record in force; until one comes,
the last is judged by the tolerance under which it was taken (R154). -/
def Obligations.PumpFollowsItsReadings : Prop :=
  ∀ (mpa : Nat) (s : State),
    (s.job.state = .idle ∧ (s.jet.state = .closed ∨ s.jet.state = .closing))
      ∨ (s.job.state = .run ∧ s.jet.state = .opened) →
    (let read : Lines := { s.lines with reading := mpa }
     let judged : Pump := { s.pump with formerTolerance := none }
     let drift : Band := { ms := s.cfg.dipTime, dip := false, lowest := 0 }
     let dip : Band := { ms := s.cfg.dipTime, dip := true, lowest := mpa }
     let lost (t : State) (detail : Nat) : Prop :=
       t.job.state = .fault ∧ t.job.residency = some 2000 ∧ t.queue.entries = []
       ∧ t.job.fault = { kind := some .pressureLost, detail := detail, secondary := 0 }
     (s.pump.state = .off ∨ s.pump.state = .starting →
       exec (.transducerReading mpa) s = .next { s with lines := read, pump := judged }
       ∧ exec .pumpRunningInactive s = .next { s with lines := { s.lines with pumpRunning := false } })
     ∧ (s.pump.state = .ramping → ¬ WithinTolerance s.cfg.tolerance s.pump.code mpa →
       exec (.transducerReading mpa) s = .next { s with lines := read, pump := judged })
     ∧ (s.pump.state = .ramping → WithinTolerance s.cfg.tolerance s.pump.code mpa → s.pump.latch = none →
       ∃ t posted, exec (.transducerReading mpa) s = .next t ∧ t.link = linkAfter s.link posted none
         ∧ t.pump.state = .steady ∧ t.pump.current = s.pump.target.level ∧ t.pump.target = s.pump.target
         ∧ t.pump.code = s.pump.code ∧ t.pump.rampTimer = none ∧ t.job = s.job ∧ t.lines = read)
     ∧ (∀ q, s.pump.state = .ramping → WithinTolerance s.cfg.tolerance s.pump.code mpa → s.pump.latch = some q →
         levelCode s.cfg q ≠ s.pump.code → ¬ WithinTolerance s.cfg.tolerance (levelCode s.cfg q) mpa →
       ∃ t posted, exec (.transducerReading mpa) s = .next t ∧ t.link = linkAfter s.link posted none
         ∧ t.pump.state = .ramping ∧ t.pump.target = q ∧ t.pump.latch = none ∧ t.pump.code = levelCode s.cfg q
         ∧ t.pump.rampTimer = some s.cfg.rampTimeout ∧ t.pump.current = s.pump.current ∧ t.job = s.job)
     ∧ (s.pump.state = .steady →
       exec (.transducerReading mpa) s = .next { s with
         lines := read
         pump := { judged with
           band :=
             if s.pump.valveOpen = true then
               if mpa + s.cfg.tolerance < 5 * s.pump.code then
                 (match s.pump.band with
                   | some b => if b.dip = true then some { b with lowest := min b.lowest mpa } else some dip
                   | none => some dip)
               else if 5 * s.pump.code + s.cfg.tolerance < mpa then
                 (match s.pump.band with
                   | some b => if b.dip = true then some drift else some b
                   | none => some drift)
               else none
             else if mpa + s.cfg.tolerance < 5 * s.pump.code ∨ 5 * s.pump.code + s.cfg.tolerance < mpa then
               (match s.pump.band with
                 | some b => some b
                 | none => some drift)
             else none } })
     ∧ (s.pump.state = .steady ∨ s.pump.state = .ramping →
       (s.pump.valveOpen = false →
         ∃ t posted, exec .pumpRunningInactive s = .next t ∧ t.link = linkAfter s.link posted none
           ∧ t.pump.state = .starting ∧ t.pump.code = 0 ∧ t.pump.target = s.pump.target
           ∧ t.pump.latch = s.pump.latch ∧ t.pump.startTimer = some s.cfg.startTimeout
           ∧ t.pump.rampTimer = none ∧ t.pump.band = none ∧ t.job = s.job)
       ∧ (s.pump.valveOpen = true →
         ∃ t posted, exec .pumpRunningInactive s = .next t ∧ t.link = linkAfter s.link posted none
           ∧ lost t s.lines.reading))
     ∧ (∀ b, s.pump.state = .steady → s.pump.band = some b →
       (b.dip = true →
         ∃ t posted, exec .bandTimerExpiry s = .next t ∧ t.link = linkAfter s.link posted none ∧ lost t b.lowest)
       ∧ (b.dip = false → ¬ ReadingWithin s s.pump.code →
         ∃ t posted, exec .bandTimerExpiry s = .next t ∧ t.link = linkAfter s.link posted none
           ∧ t.pump.state = .ramping ∧ t.pump.code = s.pump.code ∧ t.pump.target = s.pump.target
           ∧ t.pump.rampTimer = some s.cfg.rampTimeout ∧ t.pump.band = none ∧ t.job = s.job))
     ∧ (∀ ms, s.pump.state = .steady → s.pump.standbyTimer = some ms →
         demandCode s.cfg s.cfg.standbyPressure ≠ s.pump.code →
         ¬ ReadingWithin s (demandCode s.cfg s.cfg.standbyPressure) →
       ∃ t posted, exec .standbyTimerExpiry s = .next t ∧ t.link = linkAfter s.link posted none
         ∧ t.pump.state = .ramping ∧ t.pump.target = { level := .standby, pressure := 0 }
         ∧ t.pump.code = demandCode s.cfg s.cfg.standbyPressure ∧ t.pump.standbyTimer = none ∧ t.job = s.job)
     ∧ (∀ ms, s.pump.state = .steady → s.pump.offTimer = some ms →
       ∃ t posted, exec .offTimerExpiry s = .next t ∧ t.link = linkAfter s.link posted none
         ∧ t.pump.state = .off ∧ t.pump.code = 0 ∧ t.pump.target.level = .off ∧ t.pump.offTimer = none
         ∧ t.job = s.job))

/-! ## Guards and wear -/

/-- GUARD_OPEN and GUARD_CLOSED (R156, R157, R160, R161). In IDLE the guard state and the closed zones follow the input
and nothing else but the plan and the lamps changes. In RUN/MOVING a guard opening on a zone in use takes the part to
HOLD/STOPPING with reason GUARD and the zone recorded, the valve commanded closed at once, its timer with the state HOLD
(log entry 29). In HOLD/HELD a guard closing ends nothing. A guard opening on a zone that the next entry is the first to
touch places a ZONE stop at the junction before it (R96): at the deceleration of a JET_OFF junction, inside a contour at
a_cut where that reaches, else at a_traverse; where the head cannot stop, a GUARD hold is raised, the valve closed at
once. Arrival at a ZONE stop (R97): RUN/ZONE_WAIT before a TRAVERSE or an unopened pierce, a GUARD hold inside a
contour. A guard closing on a head in ZONE_WAIT lets it go on (R161): MOVING, or PIERCING at a pierce. Which zones are
in use is R159's with log entry 21. What reaches the junction and where a hold stop lies are counted from the whole
micrometre the head has reached (log entry 11), and in ZONE_WAIT before a TRAVERSE Z is commanded CLEAR (log entry 24).
-/
def Obligations.GuardsCloseZonesAndHold : Prop :=
  ∀ (z : Zone) (s : State),
    (let moved (isOpen : Bool) : Lines := match z with
       | .a => { s.lines with guardA := isOpen }
       | .b => { s.lines with guardB := isOpen }
     (s.job.state = .idle → ∀ isOpen : Bool,
       ∃ t posted, exec (if isOpen = true then .guardOpen z else .guardClosed z) s = .next t
         ∧ t.link = linkAfter s.link posted none ∧ ClosedSound t
         ∧ t = { s with lines := moved isOpen, plan := t.plan, zone := t.zone, link := t.link })
     ∧ (s.job.state = .run → s.job.sub = some .moving → 0 < s.axis.speed → s.job.hold = none →
         s.config.isSome → (z = .b → s.cfg.zoneCount = 2) → zoneInUse s z = true → s.jet.state = .opened →
       ∃ t posted, exec (.guardOpen z) s = .next t ∧ t.link = linkAfter s.link posted none ∧ ClosedSound t
         ∧ t.job = { s.job with
             state := .hold, sub := some .stopping, hold := some { reason := .guard, zone := some z }
             deferred := false }
         ∧ Report.hold (some .guard) (some z) ∈ posted ∧ t.jet.state = .closing
         ∧ t.jet.valveTimer = some (s.cfg.valveTimeout, .hold) ∧ t.queue = s.queue ∧ t.axis = s.axis
         ∧ t.lines = moved true)
     ∧ (s.job.state = .hold → s.job.sub = some .held → s.jet.state = .closed →
       ∃ t posted, exec (.guardClosed z) s = .next t ∧ t.link = linkAfter s.link posted none ∧ ClosedSound t
         ∧ t = { s with lines := moved false, plan := t.plan, zone := t.zone, link := t.link })
     ∧ (∀ e f es p q dCut dTrav, s.job.state = .run → s.job.sub = some .moving → 0 < s.axis.speed → s.job.hold = none →
         s.config.isSome → (z = .b → s.cfg.zoneCount = 2) → (∀ y, y ≠ z → s.lines.guardOpen y = false) →
         s.queue.entries = e :: f :: es → e.shape = some p → f.shape = some q → e.kind ≠ .segEnd → f.kind ≠ .segEnd →
         s.queue.recPath = [] → s.plan.approach = none → s.plan.creep = none → s.plan.holdStop = none →
         s.axis.stopRun = none → s.axis.homing = none → 0 < s.axis.pathPos → s.axis.pathPos < 60 * p.length →
         0 < q.length →
         (∀ u ∈ s.plan.stops, (s.axis.pathPos : Int) < 60 * u.pos ∧ u.committed = false ∧ u.kind ≠ .zone) →
         zoneInUse s z = false → f.touches s.cfg z = true → 0 < s.cfg.aCut → 0 < s.cfg.aTraverse →
         IsStoppingDistance s.axis.speed s.cfg.aCut dCut → IsStoppingDistance s.axis.speed s.cfg.aTraverse dTrav →
       (let reach := p.length - s.axis.pathPos / 60
        let inside := e.kind.cutting && f.kind.cutting
        let placed (t : State) (posted : List Report) (decel : Nat) : Prop :=
          exec (.guardOpen z) s = .next t ∧ t.link = linkAfter s.link posted none ∧ ClosedSound t ∧ t.job = s.job
          ∧ t.queue = s.queue ∧ t.axis = s.axis
          ∧ ∃ u ∈ t.plan.stops, u.kind = .zone ∧ u.zone = some z ∧ u.pos = (p.length : Int) ∧ u.decel = decel
              ∧ u.inside = inside
        (e.kind.cutting = true → f.kind = .traverse → ∃ t posted, placed t posted s.cfg.aCut)
        ∧ (e.kind.cutting = f.kind.cutting →
            (inside = true ∧ dCut ≤ reach → ∃ t posted, placed t posted s.cfg.aCut)
            ∧ (¬ (inside = true ∧ dCut ≤ reach) → dTrav ≤ reach → ∃ t posted, placed t posted s.cfg.aTraverse)
            ∧ (¬ (inside = true ∧ dCut ≤ reach) → reach < dTrav →
              ∃ t posted h, exec (.guardOpen z) s = .next t ∧ t.link = linkAfter s.link posted none ∧ ClosedSound t
                ∧ t.job = { s.job with
                    state := .hold, sub := some .stopping, hold := some { reason := .guard, zone := some z }
                    deferred := false }
                ∧ Report.hold (some .guard) (some z) ∈ posted ∧ CloseCommanded s t
                ∧ t.plan.holdStop = some h ∧ h.decel = s.cfg.aTraverse
                ∧ h.pos ≤ ((s.axis.pathPos / 60 + dTrav : Nat) : Int) ∧ t.queue = s.queue ∧ t.axis = s.axis))))
     ∧ (∀ e es fbX fbY homeX homeY c l ls u, s.job.state = .run → s.job.sub = some .moving → s.config = some c →
         s.axis.frozen = false → s.axis.stopRun = none → s.axis.homing = none → 0 < s.axis.speed →
         s.axis.pathPos = 0 → s.queue.recPath = [] → s.queue.recBack = false → s.jet.recovery = none →
         s.plan.approach = none → s.jet.state = .closed ∨ s.jet.state = .closing → s.job.hold = none →
         s.plan.legs = l :: ls → l.isEnd = false → s.queue.entries = e :: es → e.kind ≠ .segEnd →
         u ∈ s.plan.stops → u.kind = .zone → u.pos = 0 → OnlyClosed s z → e.touches s.cfg z = true →
         u.zone = some z → WithinWarn c s.axis.setPoint ⟨fbX + s.axis.offset.x, fbY + s.axis.offset.y⟩ →
       (let arrived (t : State) (posted : List Report) : Prop :=
          exec (.interpolationPeriod fbX fbY homeX homeY) s = .next t ∧ t.link = linkAfter s.link posted none
          ∧ t.axis.speed = 0 ∧ t.axis.setPoint = s.axis.setPoint ∧ t.queue = s.queue ∧ t.jet = s.jet ∧ t.pump = s.pump
        (e.kind.cutting = e.opens → s.jet.contour = none →
          ∃ t posted, arrived t posted ∧ t.job = { s.job with sub := some .zoneWait }
            ∧ (e.kind = .traverse → t.axis.zCmd = .clear))
        ∧ (e.kind.cutting = true → s.jet.contour.isSome →
          ∃ t posted, arrived t posted
            ∧ t.job = { s.job with
                state := .hold, sub := some (if s.jet.state = .closed then .held else .stopping)
                hold := some { reason := .guard, zone := some z }, deferred := false }
            ∧ Report.hold (some .guard) (some z) ∈ posted ∧ (∃ h, t.plan.holdStop = some h ∧ h.pos = 0))))
     ∧ (∀ e es, s.job.state = .run → s.job.sub = some .zoneWait → Resting s → s.axis.pathPos = 0 →
         (z = .b → s.cfg.zoneCount = 2) →
         (∀ y, y ≠ z → s.lines.guardOpen y = false) → s.queue.recPath = [] → s.plan.approach = none →
         s.queue.entries = e :: es → s.jet.state = .closed →
       (let freed (t : State) (posted : List Report) (sub : Substate) : Prop :=
          exec (.guardClosed z) s = .next t ∧ t.link = linkAfter s.link posted none ∧ ClosedSound t
          ∧ t.job = { s.job with sub := some sub } ∧ t.queue = s.queue
        (e.kind = .traverse → ∃ t posted, freed t posted .moving ∧ t.axis.zCmd = .clear ∧ t.jet = s.jet)
        ∧ (e.kind.cutting = true → s.lines.zReached ≠ some .pierce → s.axis.zCmd ≠ .pierce →
          ∃ t posted, freed t posted .piercing ∧ t.axis.zCmd = .pierce ∧ t.jet.state = .preparing
            ∧ ∃ k, t.jet.seq = some k ∧ k.entry = (e.seq, e.pidx)))))

/-- INTERPOLATION_PERIOD in RUN/MOVING at the end of an entry and at its stops. The step that reaches the end of the
queue head retires it (R42, R44): the set-point is its end exactly, the path position goes on into the next entry, its
use count falls, and its copy joins the Retired History with its contour range and the limit applied to its end, which
up to a transition point is the former one (R93); the RETIRED report goes when its flag is set, and the contour record
moves to the contour end (R130). Standing at a stop (R100), with the bed open: at the end of the queued path with the
jet CLOSED, or when the valve switch reports, STARVED; at a PIERCE or RESTART stop, PIERCING with a pierce or kerf
restart begun in PREPARING; at a JET_OFF stop before a TRAVERSE the head goes on and Z is commanded CLEAR; at an END
with the jet CLOSED the END retires and the part is in IDLE (R43). The step is that of the planned speeds (log entry
10), taken where no junction of limit 0 has just been reached (log entry 12), and the errors are judged against the
set-point after it (log entry 27). -/
def Obligations.EntriesEndAndStopsAreReached : Prop :=
  ∀ (fbX fbY : Int) (homeX homeY : Bool) (s : State) (c : ConfigRec), s.job.state = .run → s.job.sub = some .moving →
    s.config = some c → s.axis.frozen = false → s.axis.stopRun = none → s.axis.homing = none → s.queue.recPath = [] →
    s.queue.recBack = false → s.jet.recovery = none → s.plan.approach = none →
    (let actual : Point := ⟨fbX + s.axis.offset.x, fbY + s.axis.offset.y⟩
     let period (t : State) (posted : List Report) : Prop :=
       exec (.interpolationPeriod fbX fbY homeX homeY) s = .next t ∧ t.link = linkAfter s.link posted none
     (∀ e es l ls sh, s.queue.entries = e :: es → e.shape = some sh → s.plan.legs = l :: ls → l.kind = .entry →
       l.isEnd = false → l.base = 0 → l.shape = some sh → sh.length = l.len → l.cutting = e.kind.cutting →
       e.kind ≠ .segEnd → s.axis.pathPos < 60 * l.len → 0 < s.axis.speed → s.queue.history.length ≤ 32 →
       (∀ a ∈ s.plan.anchors, 60 * a.pos = (s.axis.pathPos : Int) → a.speed ≠ 0) →
       (let x : Int := ((s.axis.pathPos / 60 : Nat) : Int)
        let step := min (max (planSpeed c s.plan x) (planSpeed c s.plan (x + 1)))
          (distanceAhead c s.plan s.axis.pathPos)
        let pos := s.axis.pathPos + step
        let start := (s.jet.contour.map ContourRec.start).getD 0
        let m := s.entryMaterial e
        0 < step → 60 * l.len ≤ pos →
        (∀ k, ls.head? = some k → k.kind = .entry ∧ k.base = 0 ∧ (pos = 60 * l.len ∨ pos < 60 * (l.len + k.len))) →
        WithinWarn c sh.stop actual →
        ∃ t posted, period t posted ∧ t.job = s.job
          ∧ t.axis = { s.axis with
              actual := actual, pathPos := pos - 60 * l.len, speed := step, setPoint := sh.stop, beyondX := false
              beyondY := false }
          ∧ t.queue = { s.queue with
              entries := es, uses := t.queue.uses, progress := (pos - 60 * l.len) / 60
              history := s.queue.history.drop (if 32 ≤ s.queue.history.length then 1 else 0) ++ [{
                seq := e.seq, pidx := e.pidx, kind := e.kind, shape := sh
                contour := if e.kind.cutting = true then some (start, start + sh.length) else none
                limit := some (match s.plan.transition with
                  | some u => if (l.len : Int) ≤ u.pos then l.former else l.limit
                  | none => l.limit)
                pressures := if e.kind.cutting = true then m.map (fun m => (m.pPierce, m.pCut)) else none
                rate := if e.kind.cutting = true then m.map MaterialRec.rate else none
                opens := e.opens }] }
          ∧ (∀ k : Fin 8, t.queue.uses[k] = s.queue.uses[k] - (if e.slot = some k.val then 1 else 0))
          ∧ (e.report = true → Report.retired e.seq e.pidx e.tag ∈ posted)
          ∧ (e.report = false → ∀ r ∈ posted, r.kindByte ≠ 0x93)
          ∧ (∀ k, e.kind.cutting = true → s.jet.contour = some k →
              t.jet.contour = some { k with start := k.start + sh.length })
          ∧ (e.kind = .traverse → t.jet.contour = none)))
     ∧ (s.queue.entries = [] → s.plan.legs = [] → WithinWarn c s.axis.setPoint actual →
       (s.jet.state = .closed →
         ∃ t posted, period t posted ∧ t.job = { s.job with sub := some .starved } ∧ t.axis.speed = 0
           ∧ t.queue = s.queue)
       ∧ (s.jet.state = .closing → s.jet.seq = none →
         (∃ t posted, period t posted ∧ t.job = s.job ∧ t.axis.speed = 0)
         ∧ (s.axis.speed = 0 →
           ∃ t posted, exec .valveSwitchActive s = .next t ∧ t.link = linkAfter s.link posted none
             ∧ t.job = { s.job with sub := some .starved } ∧ t.jet.state = .closed)))
     ∧ (∀ e es l ls u, s.queue.entries = e :: es → s.plan.legs = l :: ls → l.kind = .entry →
         l.isTraverse = decide (e.kind = .traverse) → l.isEnd = decide (e.kind = .segEnd) → 0 < s.axis.speed →
         u ∈ s.plan.stops → 60 * u.pos = (s.axis.pathPos : Int) → BedOpen s →
         s.jet.state = .closed ∨ s.jet.state = .closing → WithinWarn c (pointHere s) actual →
       (e.kind.cutting = true → u.kind = .pierce ∨ u.kind = .restart → s.jet.state = .closed →
           s.lines.zReached ≠ some .pierce → s.axis.zCmd ≠ .pierce →
         ∃ t posted k, period t posted ∧ t.job = { s.job with sub := some .piercing } ∧ t.queue = s.queue
           ∧ t.axis.speed = 0 ∧ t.axis.zCmd = .pierce ∧ t.jet.state = .preparing ∧ t.jet.seq = some k
           ∧ k.entry = (e.seq, e.pidx)
           ∧ (k.kind = .pierce ↔ s.jet.contour = none ∨ s.jet.incomplete = true))
       ∧ (e.kind = .traverse → u.kind = .jetOff → s.axis.pathPos = 0 →
         ∃ t posted, period t posted ∧ t.job = s.job ∧ t.queue = s.queue ∧ t.axis.speed = 0 ∧ t.axis.zCmd = .clear
           ∧ t.jet = s.jet)
       ∧ (e.kind = .segEnd → u.kind = .segEnd → s.axis.pathPos = 0 → s.jet.state = .closed →
         ∃ t posted, period t posted ∧ t.job = { s.job with state := .idle, sub := none }
           ∧ t.queue.entries = es ∧ (e.report = true → Report.retired e.seq e.pidx e.tag ∈ posted)
           ∧ t.axis.zCmd = .clear ∧ t.jet.contour = none)))

/-- MINUTE_EVENT (R166 to R168): while the valve is read as open, a Nozzle record is present and the count is below
999,999, the minutes rise by 1 with seconds and residue 0, the kerf is recomputed, and a compare value above 0 now
reached with the alarm clear sets the alarm and posts the WEAR report. Otherwise nothing is counted. That the event acts
from whatever seconds stand, and changes nothing while nothing is counted, is the model's choice (log entry 31). -/
def Obligations.MinuteEventCountsAndCompares : Prop :=
  ∀ (s : State),
    (∀ n, s.tables.nozzle = some n → s.wear.timing = true → s.wear.minutes < 999999 →
      (let minutes := s.wear.minutes + 1
       let kerf := min n.kMax (n.k0 + n.growth * minutes / 60)
       let worn := decide (0 < n.compare ∧ n.compare ≤ minutes ∧ s.wear.alarm = false)
       ∃ t, exec .minuteEvent s = .next t
         ∧ t.link = linkAfter s.link (if worn = true then [.wear minutes n.compare kerf true] else []) none
         ∧ t = { s with
             wear := { s.wear with
               minutes := minutes, seconds := 0, residue := 0, kerf := kerf, alarm := s.wear.alarm || worn }
             link := t.link }))
    ∧ (s.tables.nozzle = none ∨ s.wear.timing = false ∨ 999999 ≤ s.wear.minutes →
      ∃ t, exec .minuteEvent s = .next t ∧ t = { s with link := beginNext s.link })
end

