-- ==== Sys2Proof/Laws/State.lean ====
section
/-! SUPPORT. Laws/State.lean: one lemma for each field under each block update, so that no proof unfolds an update.
Each is true by unfolding. -/

namespace Sys2Proof.Machine

open Sys2Proof

/-! ## setJob -/

@[simp] theorem State.setJob_job (s : State) (j : Job) : (s.setJob j).job = j := rfl
@[simp] theorem State.setJob_config (s : State) (j : Job) : (s.setJob j).config = s.config := rfl
@[simp] theorem State.setJob_tables (s : State) (j : Job) : (s.setJob j).tables = s.tables := rfl
@[simp] theorem State.setJob_queue (s : State) (j : Job) : (s.setJob j).queue = s.queue := rfl
@[simp] theorem State.setJob_plan (s : State) (j : Job) : (s.setJob j).plan = s.plan := rfl
@[simp] theorem State.setJob_axis (s : State) (j : Job) : (s.setJob j).axis = s.axis := rfl
@[simp] theorem State.setJob_jet (s : State) (j : Job) : (s.setJob j).jet = s.jet := rfl
@[simp] theorem State.setJob_pump (s : State) (j : Job) : (s.setJob j).pump = s.pump := rfl
@[simp] theorem State.setJob_zone (s : State) (j : Job) : (s.setJob j).zone = s.zone := rfl
@[simp] theorem State.setJob_wear (s : State) (j : Job) : (s.setJob j).wear = s.wear := rfl
@[simp] theorem State.setJob_link (s : State) (j : Job) : (s.setJob j).link = s.link := rfl
@[simp] theorem State.setJob_lines (s : State) (j : Job) : (s.setJob j).lines = s.lines := rfl
@[simp] theorem State.setJob_freeCount (s : State) (j : Job) : (s.setJob j).freeCount = s.freeCount := rfl
@[simp] theorem State.setJob_pending (s : State) (j : Job) : (s.setJob j).pending = s.pending := rfl

/-! ## setQueue -/

@[simp] theorem State.setQueue_job (s : State) (q : SegQueue) : (s.setQueue q).job = s.job := rfl
@[simp] theorem State.setQueue_config (s : State) (q : SegQueue) : (s.setQueue q).config = s.config := rfl
@[simp] theorem State.setQueue_tables (s : State) (q : SegQueue) : (s.setQueue q).tables = s.tables := rfl
@[simp] theorem State.setQueue_queue (s : State) (q : SegQueue) : (s.setQueue q).queue = q := rfl
@[simp] theorem State.setQueue_plan (s : State) (q : SegQueue) : (s.setQueue q).plan = s.plan := rfl
@[simp] theorem State.setQueue_axis (s : State) (q : SegQueue) : (s.setQueue q).axis = s.axis := rfl
@[simp] theorem State.setQueue_jet (s : State) (q : SegQueue) : (s.setQueue q).jet = s.jet := rfl
@[simp] theorem State.setQueue_pump (s : State) (q : SegQueue) : (s.setQueue q).pump = s.pump := rfl
@[simp] theorem State.setQueue_zone (s : State) (q : SegQueue) : (s.setQueue q).zone = s.zone := rfl
@[simp] theorem State.setQueue_wear (s : State) (q : SegQueue) : (s.setQueue q).wear = s.wear := rfl
@[simp] theorem State.setQueue_link (s : State) (q : SegQueue) : (s.setQueue q).link = s.link := rfl
@[simp] theorem State.setQueue_lines (s : State) (q : SegQueue) : (s.setQueue q).lines = s.lines := rfl
@[simp] theorem State.setQueue_freeCount (s : State) (q : SegQueue) : (s.setQueue q).freeCount = s.freeCount := rfl
@[simp] theorem State.setQueue_pending (s : State) (q : SegQueue) : (s.setQueue q).pending = s.pending := rfl

/-! ## setPlan -/

@[simp] theorem State.setPlan_job (s : State) (p : Plan) : (s.setPlan p).job = s.job := rfl
@[simp] theorem State.setPlan_config (s : State) (p : Plan) : (s.setPlan p).config = s.config := rfl
@[simp] theorem State.setPlan_tables (s : State) (p : Plan) : (s.setPlan p).tables = s.tables := rfl
@[simp] theorem State.setPlan_queue (s : State) (p : Plan) : (s.setPlan p).queue = s.queue := rfl
@[simp] theorem State.setPlan_plan (s : State) (p : Plan) : (s.setPlan p).plan = p := rfl
@[simp] theorem State.setPlan_axis (s : State) (p : Plan) : (s.setPlan p).axis = s.axis := rfl
@[simp] theorem State.setPlan_jet (s : State) (p : Plan) : (s.setPlan p).jet = s.jet := rfl
@[simp] theorem State.setPlan_pump (s : State) (p : Plan) : (s.setPlan p).pump = s.pump := rfl
@[simp] theorem State.setPlan_zone (s : State) (p : Plan) : (s.setPlan p).zone = s.zone := rfl
@[simp] theorem State.setPlan_wear (s : State) (p : Plan) : (s.setPlan p).wear = s.wear := rfl
@[simp] theorem State.setPlan_link (s : State) (p : Plan) : (s.setPlan p).link = s.link := rfl
@[simp] theorem State.setPlan_lines (s : State) (p : Plan) : (s.setPlan p).lines = s.lines := rfl
@[simp] theorem State.setPlan_freeCount (s : State) (p : Plan) : (s.setPlan p).freeCount = s.freeCount := rfl
@[simp] theorem State.setPlan_pending (s : State) (p : Plan) : (s.setPlan p).pending = s.pending := rfl

/-! ## setAxis -/

@[simp] theorem State.setAxis_job (s : State) (a : Axis) : (s.setAxis a).job = s.job := rfl
@[simp] theorem State.setAxis_config (s : State) (a : Axis) : (s.setAxis a).config = s.config := rfl
@[simp] theorem State.setAxis_tables (s : State) (a : Axis) : (s.setAxis a).tables = s.tables := rfl
@[simp] theorem State.setAxis_queue (s : State) (a : Axis) : (s.setAxis a).queue = s.queue := rfl
@[simp] theorem State.setAxis_plan (s : State) (a : Axis) : (s.setAxis a).plan = s.plan := rfl
@[simp] theorem State.setAxis_axis (s : State) (a : Axis) : (s.setAxis a).axis = a := rfl
@[simp] theorem State.setAxis_jet (s : State) (a : Axis) : (s.setAxis a).jet = s.jet := rfl
@[simp] theorem State.setAxis_pump (s : State) (a : Axis) : (s.setAxis a).pump = s.pump := rfl
@[simp] theorem State.setAxis_zone (s : State) (a : Axis) : (s.setAxis a).zone = s.zone := rfl
@[simp] theorem State.setAxis_wear (s : State) (a : Axis) : (s.setAxis a).wear = s.wear := rfl
@[simp] theorem State.setAxis_link (s : State) (a : Axis) : (s.setAxis a).link = s.link := rfl
@[simp] theorem State.setAxis_lines (s : State) (a : Axis) : (s.setAxis a).lines = s.lines := rfl
@[simp] theorem State.setAxis_freeCount (s : State) (a : Axis) : (s.setAxis a).freeCount = s.freeCount := rfl
@[simp] theorem State.setAxis_pending (s : State) (a : Axis) : (s.setAxis a).pending = s.pending := rfl

/-! ## setJet -/

@[simp] theorem State.setJet_job (s : State) (j : Jet) : (s.setJet j).job = s.job := rfl
@[simp] theorem State.setJet_config (s : State) (j : Jet) : (s.setJet j).config = s.config := rfl
@[simp] theorem State.setJet_tables (s : State) (j : Jet) : (s.setJet j).tables = s.tables := rfl
@[simp] theorem State.setJet_queue (s : State) (j : Jet) : (s.setJet j).queue = s.queue := rfl
@[simp] theorem State.setJet_plan (s : State) (j : Jet) : (s.setJet j).plan = s.plan := rfl
@[simp] theorem State.setJet_axis (s : State) (j : Jet) : (s.setJet j).axis = s.axis := rfl
@[simp] theorem State.setJet_jet (s : State) (j : Jet) : (s.setJet j).jet = j := rfl
@[simp] theorem State.setJet_pump (s : State) (j : Jet) : (s.setJet j).pump = s.pump := rfl
@[simp] theorem State.setJet_zone (s : State) (j : Jet) : (s.setJet j).zone = s.zone := rfl
@[simp] theorem State.setJet_wear (s : State) (j : Jet) : (s.setJet j).wear = s.wear := rfl
@[simp] theorem State.setJet_link (s : State) (j : Jet) : (s.setJet j).link = s.link := rfl
@[simp] theorem State.setJet_lines (s : State) (j : Jet) : (s.setJet j).lines = s.lines := rfl
@[simp] theorem State.setJet_freeCount (s : State) (j : Jet) : (s.setJet j).freeCount = s.freeCount := rfl
@[simp] theorem State.setJet_pending (s : State) (j : Jet) : (s.setJet j).pending = s.pending := rfl

/-! ## setPump -/

@[simp] theorem State.setPump_job (s : State) (p : Pump) : (s.setPump p).job = s.job := rfl
@[simp] theorem State.setPump_config (s : State) (p : Pump) : (s.setPump p).config = s.config := rfl
@[simp] theorem State.setPump_tables (s : State) (p : Pump) : (s.setPump p).tables = s.tables := rfl
@[simp] theorem State.setPump_queue (s : State) (p : Pump) : (s.setPump p).queue = s.queue := rfl
@[simp] theorem State.setPump_plan (s : State) (p : Pump) : (s.setPump p).plan = s.plan := rfl
@[simp] theorem State.setPump_axis (s : State) (p : Pump) : (s.setPump p).axis = s.axis := rfl
@[simp] theorem State.setPump_jet (s : State) (p : Pump) : (s.setPump p).jet = s.jet := rfl
@[simp] theorem State.setPump_pump (s : State) (p : Pump) : (s.setPump p).pump = p := rfl
@[simp] theorem State.setPump_zone (s : State) (p : Pump) : (s.setPump p).zone = s.zone := rfl
@[simp] theorem State.setPump_wear (s : State) (p : Pump) : (s.setPump p).wear = s.wear := rfl
@[simp] theorem State.setPump_link (s : State) (p : Pump) : (s.setPump p).link = s.link := rfl
@[simp] theorem State.setPump_lines (s : State) (p : Pump) : (s.setPump p).lines = s.lines := rfl
@[simp] theorem State.setPump_freeCount (s : State) (p : Pump) : (s.setPump p).freeCount = s.freeCount := rfl
@[simp] theorem State.setPump_pending (s : State) (p : Pump) : (s.setPump p).pending = s.pending := rfl

/-! ## setZone -/

@[simp] theorem State.setZone_job (s : State) (z : ZoneUnit) : (s.setZone z).job = s.job := rfl
@[simp] theorem State.setZone_config (s : State) (z : ZoneUnit) : (s.setZone z).config = s.config := rfl
@[simp] theorem State.setZone_tables (s : State) (z : ZoneUnit) : (s.setZone z).tables = s.tables := rfl
@[simp] theorem State.setZone_queue (s : State) (z : ZoneUnit) : (s.setZone z).queue = s.queue := rfl
@[simp] theorem State.setZone_plan (s : State) (z : ZoneUnit) : (s.setZone z).plan = s.plan := rfl
@[simp] theorem State.setZone_axis (s : State) (z : ZoneUnit) : (s.setZone z).axis = s.axis := rfl
@[simp] theorem State.setZone_jet (s : State) (z : ZoneUnit) : (s.setZone z).jet = s.jet := rfl
@[simp] theorem State.setZone_pump (s : State) (z : ZoneUnit) : (s.setZone z).pump = s.pump := rfl
@[simp] theorem State.setZone_zone (s : State) (z : ZoneUnit) : (s.setZone z).zone = z := rfl
@[simp] theorem State.setZone_wear (s : State) (z : ZoneUnit) : (s.setZone z).wear = s.wear := rfl
@[simp] theorem State.setZone_link (s : State) (z : ZoneUnit) : (s.setZone z).link = s.link := rfl
@[simp] theorem State.setZone_lines (s : State) (z : ZoneUnit) : (s.setZone z).lines = s.lines := rfl
@[simp] theorem State.setZone_freeCount (s : State) (z : ZoneUnit) : (s.setZone z).freeCount = s.freeCount := rfl
@[simp] theorem State.setZone_pending (s : State) (z : ZoneUnit) : (s.setZone z).pending = s.pending := rfl

/-! ## setWear -/

@[simp] theorem State.setWear_job (s : State) (w : Wear) : (s.setWear w).job = s.job := rfl
@[simp] theorem State.setWear_config (s : State) (w : Wear) : (s.setWear w).config = s.config := rfl
@[simp] theorem State.setWear_tables (s : State) (w : Wear) : (s.setWear w).tables = s.tables := rfl
@[simp] theorem State.setWear_queue (s : State) (w : Wear) : (s.setWear w).queue = s.queue := rfl
@[simp] theorem State.setWear_plan (s : State) (w : Wear) : (s.setWear w).plan = s.plan := rfl
@[simp] theorem State.setWear_axis (s : State) (w : Wear) : (s.setWear w).axis = s.axis := rfl
@[simp] theorem State.setWear_jet (s : State) (w : Wear) : (s.setWear w).jet = s.jet := rfl
@[simp] theorem State.setWear_pump (s : State) (w : Wear) : (s.setWear w).pump = s.pump := rfl
@[simp] theorem State.setWear_zone (s : State) (w : Wear) : (s.setWear w).zone = s.zone := rfl
@[simp] theorem State.setWear_wear (s : State) (w : Wear) : (s.setWear w).wear = w := rfl
@[simp] theorem State.setWear_link (s : State) (w : Wear) : (s.setWear w).link = s.link := rfl
@[simp] theorem State.setWear_lines (s : State) (w : Wear) : (s.setWear w).lines = s.lines := rfl
@[simp] theorem State.setWear_freeCount (s : State) (w : Wear) : (s.setWear w).freeCount = s.freeCount := rfl
@[simp] theorem State.setWear_pending (s : State) (w : Wear) : (s.setWear w).pending = s.pending := rfl

/-! ## setLink -/

@[simp] theorem State.setLink_job (s : State) (l : Link) : (s.setLink l).job = s.job := rfl
@[simp] theorem State.setLink_config (s : State) (l : Link) : (s.setLink l).config = s.config := rfl
@[simp] theorem State.setLink_tables (s : State) (l : Link) : (s.setLink l).tables = s.tables := rfl
@[simp] theorem State.setLink_queue (s : State) (l : Link) : (s.setLink l).queue = s.queue := rfl
@[simp] theorem State.setLink_plan (s : State) (l : Link) : (s.setLink l).plan = s.plan := rfl
@[simp] theorem State.setLink_axis (s : State) (l : Link) : (s.setLink l).axis = s.axis := rfl
@[simp] theorem State.setLink_jet (s : State) (l : Link) : (s.setLink l).jet = s.jet := rfl
@[simp] theorem State.setLink_pump (s : State) (l : Link) : (s.setLink l).pump = s.pump := rfl
@[simp] theorem State.setLink_zone (s : State) (l : Link) : (s.setLink l).zone = s.zone := rfl
@[simp] theorem State.setLink_wear (s : State) (l : Link) : (s.setLink l).wear = s.wear := rfl
@[simp] theorem State.setLink_link (s : State) (l : Link) : (s.setLink l).link = l := rfl
@[simp] theorem State.setLink_lines (s : State) (l : Link) : (s.setLink l).lines = s.lines := rfl
@[simp] theorem State.setLink_freeCount (s : State) (l : Link) : (s.setLink l).freeCount = s.freeCount := rfl
@[simp] theorem State.setLink_pending (s : State) (l : Link) : (s.setLink l).pending = s.pending := rfl

/-! ## setLines -/

@[simp] theorem State.setLines_job (s : State) (l : Lines) : (s.setLines l).job = s.job := rfl
@[simp] theorem State.setLines_config (s : State) (l : Lines) : (s.setLines l).config = s.config := rfl
@[simp] theorem State.setLines_tables (s : State) (l : Lines) : (s.setLines l).tables = s.tables := rfl
@[simp] theorem State.setLines_queue (s : State) (l : Lines) : (s.setLines l).queue = s.queue := rfl
@[simp] theorem State.setLines_plan (s : State) (l : Lines) : (s.setLines l).plan = s.plan := rfl
@[simp] theorem State.setLines_axis (s : State) (l : Lines) : (s.setLines l).axis = s.axis := rfl
@[simp] theorem State.setLines_jet (s : State) (l : Lines) : (s.setLines l).jet = s.jet := rfl
@[simp] theorem State.setLines_pump (s : State) (l : Lines) : (s.setLines l).pump = s.pump := rfl
@[simp] theorem State.setLines_zone (s : State) (l : Lines) : (s.setLines l).zone = s.zone := rfl
@[simp] theorem State.setLines_wear (s : State) (l : Lines) : (s.setLines l).wear = s.wear := rfl
@[simp] theorem State.setLines_link (s : State) (l : Lines) : (s.setLines l).link = s.link := rfl
@[simp] theorem State.setLines_lines (s : State) (l : Lines) : (s.setLines l).lines = l := rfl
@[simp] theorem State.setLines_freeCount (s : State) (l : Lines) : (s.setLines l).freeCount = s.freeCount := rfl
@[simp] theorem State.setLines_pending (s : State) (l : Lines) : (s.setLines l).pending = s.pending := rfl

/-! ## setTables -/

@[simp] theorem State.setTables_job (s : State) (t : Tables) : (s.setTables t).job = s.job := rfl
@[simp] theorem State.setTables_config (s : State) (t : Tables) : (s.setTables t).config = s.config := rfl
@[simp] theorem State.setTables_tables (s : State) (t : Tables) : (s.setTables t).tables = t := rfl
@[simp] theorem State.setTables_queue (s : State) (t : Tables) : (s.setTables t).queue = s.queue := rfl
@[simp] theorem State.setTables_plan (s : State) (t : Tables) : (s.setTables t).plan = s.plan := rfl
@[simp] theorem State.setTables_axis (s : State) (t : Tables) : (s.setTables t).axis = s.axis := rfl
@[simp] theorem State.setTables_jet (s : State) (t : Tables) : (s.setTables t).jet = s.jet := rfl
@[simp] theorem State.setTables_pump (s : State) (t : Tables) : (s.setTables t).pump = s.pump := rfl
@[simp] theorem State.setTables_zone (s : State) (t : Tables) : (s.setTables t).zone = s.zone := rfl
@[simp] theorem State.setTables_wear (s : State) (t : Tables) : (s.setTables t).wear = s.wear := rfl
@[simp] theorem State.setTables_link (s : State) (t : Tables) : (s.setTables t).link = s.link := rfl
@[simp] theorem State.setTables_lines (s : State) (t : Tables) : (s.setTables t).lines = s.lines := rfl
@[simp] theorem State.setTables_freeCount (s : State) (t : Tables) : (s.setTables t).freeCount = s.freeCount := rfl
@[simp] theorem State.setTables_pending (s : State) (t : Tables) : (s.setTables t).pending = s.pending := rfl

/-! ## setConfig -/

@[simp] theorem State.setConfig_job (s : State) (c : Option ConfigRec) : (s.setConfig c).job = s.job := rfl
@[simp] theorem State.setConfig_config (s : State) (c : Option ConfigRec) : (s.setConfig c).config = c := rfl
@[simp] theorem State.setConfig_tables (s : State) (c : Option ConfigRec) : (s.setConfig c).tables = s.tables := rfl
@[simp] theorem State.setConfig_queue (s : State) (c : Option ConfigRec) : (s.setConfig c).queue = s.queue := rfl
@[simp] theorem State.setConfig_plan (s : State) (c : Option ConfigRec) : (s.setConfig c).plan = s.plan := rfl
@[simp] theorem State.setConfig_axis (s : State) (c : Option ConfigRec) : (s.setConfig c).axis = s.axis := rfl
@[simp] theorem State.setConfig_jet (s : State) (c : Option ConfigRec) : (s.setConfig c).jet = s.jet := rfl
@[simp] theorem State.setConfig_pump (s : State) (c : Option ConfigRec) : (s.setConfig c).pump = s.pump := rfl
@[simp] theorem State.setConfig_zone (s : State) (c : Option ConfigRec) : (s.setConfig c).zone = s.zone := rfl
@[simp] theorem State.setConfig_wear (s : State) (c : Option ConfigRec) : (s.setConfig c).wear = s.wear := rfl
@[simp] theorem State.setConfig_link (s : State) (c : Option ConfigRec) : (s.setConfig c).link = s.link := rfl
@[simp] theorem State.setConfig_lines (s : State) (c : Option ConfigRec) : (s.setConfig c).lines = s.lines := rfl
@[simp] theorem State.setConfig_freeCount (s : State) (c : Option ConfigRec) : (s.setConfig c).freeCount = s.freeCount := rfl
@[simp] theorem State.setConfig_pending (s : State) (c : Option ConfigRec) : (s.setConfig c).pending = s.pending := rfl

/-! ## setPending -/

@[simp] theorem State.setPending_job (s : State) (q : List Instr) : (s.setPending q).job = s.job := rfl
@[simp] theorem State.setPending_config (s : State) (q : List Instr) : (s.setPending q).config = s.config := rfl
@[simp] theorem State.setPending_tables (s : State) (q : List Instr) : (s.setPending q).tables = s.tables := rfl
@[simp] theorem State.setPending_queue (s : State) (q : List Instr) : (s.setPending q).queue = s.queue := rfl
@[simp] theorem State.setPending_plan (s : State) (q : List Instr) : (s.setPending q).plan = s.plan := rfl
@[simp] theorem State.setPending_axis (s : State) (q : List Instr) : (s.setPending q).axis = s.axis := rfl
@[simp] theorem State.setPending_jet (s : State) (q : List Instr) : (s.setPending q).jet = s.jet := rfl
@[simp] theorem State.setPending_pump (s : State) (q : List Instr) : (s.setPending q).pump = s.pump := rfl
@[simp] theorem State.setPending_zone (s : State) (q : List Instr) : (s.setPending q).zone = s.zone := rfl
@[simp] theorem State.setPending_wear (s : State) (q : List Instr) : (s.setPending q).wear = s.wear := rfl
@[simp] theorem State.setPending_link (s : State) (q : List Instr) : (s.setPending q).link = s.link := rfl
@[simp] theorem State.setPending_lines (s : State) (q : List Instr) : (s.setPending q).lines = s.lines := rfl
@[simp] theorem State.setPending_freeCount (s : State) (q : List Instr) : (s.setPending q).freeCount = s.freeCount := rfl
@[simp] theorem State.setPending_pending (s : State) (q : List Instr) : (s.setPending q).pending = q := rfl

end Sys2Proof.Machine
end

