-- ==== Sys2Proof/Laws/Answers.lean ====
section
/-! SUPPORT. Laws/Answers.lean: what serving a request does, said once: an answer with room becomes one reply (R173,
R174), a refusal leaves the rest of the state alone (R4), and a full Reply List discards the frame. -/

namespace Sys2Proof.Machine

open Sys2Proof

@[simp] theorem kick_eq (s : State) : kick s = { s with link := beginNext s.link } := rfl

/-- With room, a request is answered and its reply joins the list (R173). -/
theorem serve_of_room {s : State} (h : s.hasRoom = true) (tag : Byte) (kind : Nat) (answer : State → Answer) :
    serve tag kind answer s = kick (deliver tag kind (answer s)) := by
  simp [serve, h]

/-- Without room, the frame is an overrun (R173). -/
theorem serve_of_full {s : State} (h : s.hasRoom = false) (tag : Byte) (kind : Nat) (answer : State → Answer) :
    serve tag kind answer s = kick (discardFrame s) := by
  simp [serve, h]

/-- Delivering changes the Link Port and, where no rule states the detail word, the counter of free values. -/
theorem deliver_eq (tag : Byte) (kind : Nat) (a : Answer) :
    deliver tag kind a =
      { a.state with
        link := { a.state.link with replies := a.state.link.replies ++ [replyOf tag kind a] }
        freeCount := a.state.freeCount + (if a.detail.isNone then 1 else 0) } := by
  unfold deliver countFree appendReply
  cases h : a.detail <;> simp [State.setLink]

/-- An answer over a state that has only posted reports, with nothing after the common part, is a reply (R174). -/
theorem replied_of_posts {s u : State} {posted : List Report} (tag : Byte) (kind : Nat) (code : ResultCode)
    (detail : Option Nat) (deferred : Bool) (hf : u.freeCount = s.freeCount)
    (hl : u.link = { s.link with reports := posted.foldl postInto s.link.reports }) :
    Replied s (kick (deliver tag kind
      { state := u, code := code, detail := detail, deferred := deferred, body := .none })) tag kind code detail
      deferred posted := by
  cases detail <;>
    simp [Replied, deliver_eq, hf, hl, linkAfter, replyOf, replyOver, detailWord, State.free]

/-- A refusal leaves everything but the reply and the counter of free values as it was (R4). -/
theorem refused_of_refuse {s : State} (h : s.hasRoom = true) (tag : Byte) (kind : Nat) (code : ResultCode)
    (detail : Option Nat) (answer : State → Answer) (ha : answer s = refuse code detail s) :
    Refused s (serve tag kind answer s) tag kind code detail := by
  rw [serve_of_room h, ha]
  exact ⟨replied_of_posts (posted := []) tag kind code detail false rfl rfl, by simp [deliver_eq, refuse]⟩

/-- A taken request's reply (R173, R174). -/
theorem replied_of_ok {s u : State} {posted : List Report} (h : s.hasRoom = true) (tag : Byte) (kind : Nat)
    (detail : Option Nat) (answer : State → Answer) (ha : answer s = okAnswer detail u)
    (hf : u.freeCount = s.freeCount)
    (hl : u.link = { s.link with reports := posted.foldl postInto s.link.reports }) :
    Replied s (serve tag kind answer s) tag kind .ok detail false posted := by
  rw [serve_of_room h, ha]
  exact replied_of_posts tag kind .ok detail false hf hl

/-- What a taken request leaves besides the reply: the state its owner made. -/
theorem serve_ok_eq {s u : State} (h : s.hasRoom = true) (tag : Byte) (kind : Nat) (detail : Option Nat)
    (answer : State → Answer) (ha : answer s = okAnswer detail u) :
    serve tag kind answer s =
      { u with
        link := (serve tag kind answer s).link
        freeCount := u.freeCount + (if detail.isNone then 1 else 0) } := by
  rw [serve_of_room h, ha]
  simp [deliver_eq, okAnswer]

end Sys2Proof.Machine
end

