-- ==== Sys2Proof/Laws/Keeps.lean ====
section
/-! SUPPORT. Laws/Keeps.lean: the frame of every operation the blocks share, said once for each: which blocks it may
change. Whatever it changes, it leaves the Configure record, the tables, the counter of the free values and the queue of
commands as they were, and changes the Link Port by posting reports alone. A proof about a command composes these lemmas
instead of unfolding the operations. -/

namespace Sys2Proof.Machine

open Sys2Proof

/-- The blocks an operation may change. -/
inductive Block
  | job
  | queue
  | plan
  | axis
  | jet
  | pump
  | zone
  | wear
  | lines
deriving DecidableEq, Repr

/-- From `s` to `t` no block has changed but those of `bs`, and the Link Port by posts alone. -/
structure Keeps (bs : List Block) (s t : State) : Prop where
  job : bs.contains .job = false → t.job = s.job
  queue : bs.contains .queue = false → t.queue = s.queue
  plan : bs.contains .plan = false → t.plan = s.plan
  axis : bs.contains .axis = false → t.axis = s.axis
  jet : bs.contains .jet = false → t.jet = s.jet
  pump : bs.contains .pump = false → t.pump = s.pump
  zone : bs.contains .zone = false → t.zone = s.zone
  wear : bs.contains .wear = false → t.wear = s.wear
  lines : bs.contains .lines = false → t.lines = s.lines
  config : t.config = s.config
  tables : t.tables = s.tables
  freeCount : t.freeCount = s.freeCount
  pending : t.pending = s.pending
  posts : ∃ posted : List Report, t.link = { s.link with reports := posted.foldl postInto s.link.reports }

theorem Keeps.refl (bs : List Block) (s : State) : Keeps bs s s where
  job _ := rfl
  queue _ := rfl
  plan _ := rfl
  axis _ := rfl
  jet _ := rfl
  pump _ := rfl
  zone _ := rfl
  wear _ := rfl
  lines _ := rfl
  config := rfl
  tables := rfl
  freeCount := rfl
  pending := rfl
  posts := ⟨[], rfl⟩

/-- A block outside a list is outside every part of it. -/
theorem outside_of_sub {bs cs : List Block} (h : bs.all cs.contains = true) {b : Block}
    (hb : cs.contains b = false) : bs.contains b = false := by
  simp only [List.all_eq_true, List.contains_eq_mem, decide_eq_true_eq, decide_eq_false_iff_not] at *
  exact fun hm => hb (h b hm)

/-- An operation that keeps all but some of the blocks of `cs`, after a change of blocks of `cs`. -/
theorem Keeps.comp {bs cs : List Block} {s t u : State} (g : Keeps bs t u) (hb : bs.all cs.contains = true)
    (h : Keeps cs s t) : Keeps cs s u where
  job k := (g.job (outside_of_sub hb k)).trans (h.job k)
  queue k := (g.queue (outside_of_sub hb k)).trans (h.queue k)
  plan k := (g.plan (outside_of_sub hb k)).trans (h.plan k)
  axis k := (g.axis (outside_of_sub hb k)).trans (h.axis k)
  jet k := (g.jet (outside_of_sub hb k)).trans (h.jet k)
  pump k := (g.pump (outside_of_sub hb k)).trans (h.pump k)
  zone k := (g.zone (outside_of_sub hb k)).trans (h.zone k)
  wear k := (g.wear (outside_of_sub hb k)).trans (h.wear k)
  lines k := (g.lines (outside_of_sub hb k)).trans (h.lines k)
  config := g.config.trans h.config
  tables := g.tables.trans h.tables
  freeCount := g.freeCount.trans h.freeCount
  pending := g.pending.trans h.pending
  posts := by
    obtain ⟨p, hp⟩ := h.posts
    obtain ⟨q, hq⟩ := g.posts
    exact ⟨p ++ q, by rw [hq, hp, List.foldl_append]⟩

theorem setJob_keeps (s : State) (x : Job) : Keeps [.job] s (s.setJob x) := by
  constructor <;> first | exact fun _ => rfl | exact rfl | exact ⟨[], rfl⟩ | (intro h; simp at h)

theorem setQueue_keeps (s : State) (x : SegQueue) : Keeps [.queue] s (s.setQueue x) := by
  constructor <;> first | exact fun _ => rfl | exact rfl | exact ⟨[], rfl⟩ | (intro h; simp at h)

theorem setPlan_keeps (s : State) (x : Plan) : Keeps [.plan] s (s.setPlan x) := by
  constructor <;> first | exact fun _ => rfl | exact rfl | exact ⟨[], rfl⟩ | (intro h; simp at h)

theorem setAxis_keeps (s : State) (x : Axis) : Keeps [.axis] s (s.setAxis x) := by
  constructor <;> first | exact fun _ => rfl | exact rfl | exact ⟨[], rfl⟩ | (intro h; simp at h)

theorem setJet_keeps (s : State) (x : Jet) : Keeps [.jet] s (s.setJet x) := by
  constructor <;> first | exact fun _ => rfl | exact rfl | exact ⟨[], rfl⟩ | (intro h; simp at h)

theorem setPump_keeps (s : State) (x : Pump) : Keeps [.pump] s (s.setPump x) := by
  constructor <;> first | exact fun _ => rfl | exact rfl | exact ⟨[], rfl⟩ | (intro h; simp at h)

theorem setZone_keeps (s : State) (x : ZoneUnit) : Keeps [.zone] s (s.setZone x) := by
  constructor <;> first | exact fun _ => rfl | exact rfl | exact ⟨[], rfl⟩ | (intro h; simp at h)

theorem setWear_keeps (s : State) (x : Wear) : Keeps [.wear] s (s.setWear x) := by
  constructor <;> first | exact fun _ => rfl | exact rfl | exact ⟨[], rfl⟩ | (intro h; simp at h)

theorem setLines_keeps (s : State) (x : Lines) : Keeps [.lines] s (s.setLines x) := by
  constructor <;> first | exact fun _ => rfl | exact rfl | exact ⟨[], rfl⟩ | (intro h; simp at h)

theorem post_keeps (r : Report) (s : State) : Keeps [] s (post r s) := by
  constructor <;> first | exact fun _ => rfl | exact rfl | exact ⟨[r], rfl⟩

/-- A list of operations, each of which keeps all but `bs`. -/
theorem foldl_keeps {α : Type} {bs : List Block} (f : State → α → State) (hf : ∀ s a, Keeps bs s (f s a))
    (l : List α) (s : State) : Keeps bs s (l.foldl f s) := by
  induction l generalizing s with
  | nil => exact Keeps.refl _ _
  | cons a l ih => exact (ih (f s a)).comp (by simp) (hf s a)

/-! ## Machine/Ops.lean -/

theorem setState_keeps (st : CtrlState) (sub : Option Substate) (s : State) : Keeps [.job] s (setState st sub s) := by
  unfold setState
  repeat' split
  all_goals repeat' first
    | exact Keeps.refl _ _
    | refine Keeps.comp (post_keeps ..) rfl ?_
    | refine Keeps.comp (setJob_keeps ..) rfl ?_

theorem setFault_keeps (r : FaultRecord) (s : State) : Keeps [.job] s (setFault r s) := by
  unfold setFault
  repeat' split
  all_goals repeat' first
    | exact Keeps.refl _ _
    | refine Keeps.comp (post_keeps ..) rfl ?_
    | refine Keeps.comp (setJob_keeps ..) rfl ?_

theorem clearHold_keeps (s : State) : Keeps [.job] s (clearHold s) := by
  unfold clearHold
  repeat' split
  all_goals repeat' first
    | exact Keeps.refl _ _
    | refine Keeps.comp (post_keeps ..) rfl ?_
    | refine Keeps.comp (setJob_keeps ..) rfl ?_

theorem countSecondary_keeps (s : State) : Keeps [.job] s (countSecondary s) := by
  unfold countSecondary
  repeat' first
    | exact Keeps.refl _ _
    | refine Keeps.comp (setFault_keeps ..) rfl ?_

theorem countInFault_keeps (s : State) : Keeps [.job] s (countInFault s) := by
  unfold countInFault
  dsimp only
  repeat' first
    | exact Keeps.refl _ _
    | refine Keeps.comp (post_keeps ..) rfl ?_
    | refine Keeps.comp (setJob_keeps ..) rfl ?_

/-! ## Machine/Pump.lean -/

theorem pumpPut_keeps (p : Pump) (s : State) : Keeps [.pump] s (pumpPut p s) := by
  unfold pumpPut
  dsimp only
  repeat' split
  all_goals repeat' first
    | exact Keeps.refl _ _
    | refine Keeps.comp (post_keeps ..) rfl ?_
    | refine Keeps.comp (setPump_keeps ..) rfl ?_

theorem ladder_keeps (s : State) : Keeps [.pump] s (ladder s) := by
  unfold ladder
  repeat' first
    | exact Keeps.refl _ _
    | refine Keeps.comp (setPump_keeps ..) rfl ?_

theorem pumpStop_keeps (s : State) : Keeps [.pump] s (pumpStop s) := by
  unfold pumpStop
  repeat' first
    | exact Keeps.refl _ _
    | refine Keeps.comp (pumpPut_keeps ..) rfl ?_

theorem enterSteady_keeps (s : State) : Keeps [.pump] s (enterSteady s) := by
  unfold enterSteady
  repeat' first
    | exact Keeps.refl _ _
    | refine Keeps.comp (pumpPut_keeps ..) rfl ?_
    | refine Keeps.comp (ladder_keeps ..) rfl ?_

theorem startRamp_keeps (code : Nat) (p : Pump) (s : State) : Keeps [.pump] s (startRamp code p s) := by
  unfold startRamp
  repeat' first
    | exact Keeps.refl _ _
    | refine Keeps.comp (pumpPut_keeps ..) rfl ?_
    | refine Keeps.comp (ladder_keeps ..) rfl ?_

theorem rampUnlatched_keeps (code : Nat) (p : Pump) (s : State) : Keeps [.pump] s (rampUnlatched code p s) := by
  unfold rampUnlatched
  dsimp only
  repeat' split
  all_goals repeat' first
    | exact Keeps.refl _ _
    | refine Keeps.comp (enterSteady_keeps ..) rfl ?_
    | refine Keeps.comp (startRamp_keeps ..) rfl ?_

theorem rampEnds_keeps (s : State) : Keeps [.pump] s (rampEnds s) := by
  unfold rampEnds
  dsimp only
  repeat' split
  all_goals repeat' first
    | exact Keeps.refl _ _
    | refine Keeps.comp (enterSteady_keeps ..) rfl ?_
    | refine Keeps.comp (rampUnlatched_keeps ..) rfl ?_
    | refine Keeps.comp (setPump_keeps ..) rfl ?_

theorem enterRamping_keeps (code : Nat) (p : Pump) (s : State) : Keeps [.pump] s (enterRamping code p s) := by
  unfold enterRamping
  dsimp only
  repeat' split
  all_goals repeat' first
    | exact Keeps.refl _ _
    | refine Keeps.comp (startRamp_keeps ..) rfl ?_
    | refine Keeps.comp (rampEnds_keeps ..) rfl ?_

theorem redirectRamp_keeps (code : Nat) (p : Pump) (s : State) : Keeps [.pump] s (redirectRamp code p s) := by
  unfold redirectRamp
  dsimp only
  repeat' split
  all_goals repeat' first
    | exact Keeps.refl _ _
    | refine Keeps.comp (pumpPut_keeps ..) rfl ?_
    | refine Keeps.comp (rampEnds_keeps ..) rfl ?_

theorem startEnds_keeps (s : State) : Keeps [.pump] s (startEnds s) := by
  unfold startEnds
  dsimp only
  repeat' first
    | exact Keeps.refl _ _
    | refine Keeps.comp (rampUnlatched_keeps ..) rfl ?_

theorem enterStarting_keeps (target : LevelReq) (s : State) : Keeps [.pump] s (enterStarting target s) := by
  unfold enterStarting
  dsimp only
  repeat' split
  all_goals repeat' first
    | exact Keeps.refl _ _
    | refine Keeps.comp (pumpPut_keeps ..) rfl ?_
    | refine Keeps.comp (ladder_keeps ..) rfl ?_
    | refine Keeps.comp (startEnds_keeps ..) rfl ?_

theorem requestLevel_keeps (r : LevelReq) (s : State) : Keeps [.pump] s (requestLevel r s) := by
  unfold requestLevel
  dsimp only
  repeat' split
  all_goals repeat' first
    | exact Keeps.refl _ _
    | refine Keeps.comp (pumpPut_keeps ..) rfl ?_
    | refine Keeps.comp (enterRamping_keeps ..) rfl ?_
    | refine Keeps.comp (enterStarting_keeps ..) rfl ?_
    | refine Keeps.comp (setPump_keeps ..) rfl ?_

theorem levelRequest_keeps (r : LevelReq) (s : State) : Keeps [.pump] s (levelRequest r s) := by
  unfold levelRequest
  repeat' split
  all_goals repeat' first
    | exact Keeps.refl _ _
    | refine Keeps.comp (ladder_keeps ..) rfl ?_
    | refine Keeps.comp (pumpStop_keeps ..) rfl ?_
    | refine Keeps.comp (requestLevel_keeps ..) rfl ?_
    | refine Keeps.comp (setPump_keeps ..) rfl ?_

theorem steadyReading_keeps (s : State) : Keeps [.pump] s (steadyReading s) := by
  unfold steadyReading
  repeat' split
  all_goals repeat' first
    | exact Keeps.refl _ _
    | refine Keeps.comp (setPump_keeps ..) rfl ?_

theorem pumpValveOpen_keeps (s : State) : Keeps [.pump] s (pumpValveOpen s) := by
  unfold pumpValveOpen
  dsimp only
  repeat' split
  all_goals repeat' first
    | exact Keeps.refl _ _
    | refine Keeps.comp (ladder_keeps ..) rfl ?_
    | refine Keeps.comp (setPump_keeps ..) rfl ?_

theorem pumpValveClosed_keeps (s : State) : Keeps [.pump] s (pumpValveClosed s) := by
  unfold pumpValveClosed
  dsimp only
  repeat' split
  all_goals repeat' first
    | exact Keeps.refl _ _
    | refine Keeps.comp (ladder_keeps ..) rfl ?_
    | refine Keeps.comp (setPump_keeps ..) rfl ?_

theorem pumpSequence_keeps (b : Bool) (s : State) : Keeps [.pump] s (pumpSequence b s) := by
  unfold pumpSequence
  repeat' first
    | exact Keeps.refl _ _
    | refine Keeps.comp (ladder_keeps ..) rfl ?_
    | refine Keeps.comp (setPump_keeps ..) rfl ?_

theorem orderStandby_keeps (s : State) : Keeps [.pump] s (orderStandby s) := by
  unfold orderStandby
  dsimp only
  repeat' split
  all_goals repeat' first
    | exact Keeps.refl _ _
    | refine Keeps.comp (pumpPut_keeps ..) rfl ?_
    | refine Keeps.comp (ladder_keeps ..) rfl ?_
    | refine Keeps.comp (enterRamping_keeps ..) rfl ?_
    | refine Keeps.comp (redirectRamp_keeps ..) rfl ?_
    | refine Keeps.comp (setPump_keeps ..) rfl ?_

theorem orderTrip_keeps (s : State) : Keeps [.pump] s (orderTrip s) := by
  unfold orderTrip
  repeat' first
    | exact Keeps.refl _ _
    | refine Keeps.comp (pumpStop_keeps ..) rfl ?_

theorem keepTolerance_keeps (old : ConfigRec) (s : State) : Keeps [.pump] s (keepTolerance old s) := setPump_keeps ..

theorem recodeTarget_keeps (s : State) : Keeps [.pump] s (recodeTarget s) := by
  unfold recodeTarget
  dsimp only
  repeat' split
  all_goals first
    | exact Keeps.refl _ _
    | exact setPump_keeps ..
    | exact redirectRamp_keeps ..
    | exact enterRamping_keeps ..

theorem pumpConfigured_keeps (old : ConfigRec) (s : State) : Keeps [.pump] s (pumpConfigured old s) :=
  (ladder_keeps _).comp rfl ((setPump_keeps ..).comp rfl ((recodeTarget_keeps _).comp rfl (keepTolerance_keeps old s)))

/-! ## Machine/Jet.lean -/

theorem zCommand_keeps (p : ZPos) (s : State) : Keeps [.axis] s (zCommand p s) := by
  unfold zCommand
  repeat' split
  all_goals repeat' first
    | exact Keeps.refl _ _
    | refine Keeps.comp (setAxis_keeps ..) rfl ?_

theorem zReach_keeps (z : Option ZPos) (s : State) : Keeps [.axis, .lines] s (zReach z s) := by
  unfold zReach
  dsimp only
  repeat' split
  all_goals repeat' first
    | exact Keeps.refl _ _
    | refine Keeps.comp (setAxis_keeps ..) rfl ?_
    | refine Keeps.comp (setLines_keeps ..) rfl ?_

theorem zTimerOnConfigured_keeps (s : State) : Keeps [.axis] s (zTimerOnConfigured s) := by
  unfold zTimerOnConfigured
  repeat' split
  all_goals repeat' first
    | exact Keeps.refl _ _
    | refine Keeps.comp (setAxis_keeps ..) rfl ?_

theorem wearTold_keeps (b : Bool) (s : State) : Keeps [.wear] s (wearTold b s) := by
  unfold wearTold
  repeat' first
    | exact Keeps.refl _ _
    | refine Keeps.comp (setWear_keeps ..) rfl ?_

theorem armMonitor_keeps (s : State) : Keeps [.jet] s (armMonitor s) := by
  unfold armMonitor
  repeat' first
    | exact Keeps.refl _ _
    | refine Keeps.comp (setJet_keeps ..) rfl ?_

theorem endSequence_keeps (s : State) : Keeps [.jet, .pump] s (endSequence s) := by
  unfold endSequence
  repeat' split
  all_goals repeat' first
    | exact Keeps.refl _ _
    | refine Keeps.comp (pumpSequence_keeps ..) rfl ?_
    | refine Keeps.comp (setJet_keeps ..) rfl ?_

theorem closeCommand_keeps (s : State) : Keeps [.jet, .pump] s (closeCommand s) := by
  unfold closeCommand
  dsimp only
  repeat' split
  all_goals repeat' first
    | exact Keeps.refl _ _
    | refine Keeps.comp (endSequence_keeps ..) rfl ?_
    | refine Keeps.comp (setJet_keeps ..) rfl ?_

theorem clearJetRecords_keeps (s : State) : Keeps [.jet] s (clearJetRecords s) := by
  unfold clearJetRecords
  repeat' first
    | exact Keeps.refl _ _
    | refine Keeps.comp (setJet_keeps ..) rfl ?_

/-! ## Machine/ZoneTest.lean -/

theorem deriveClosed_keeps (s : State) : Keeps [.zone] s (deriveClosed s) := by
  unfold deriveClosed
  repeat' first
    | exact Keeps.refl _ _
    | refine Keeps.comp (setZone_keeps ..) rfl ?_

theorem lampDerive_keeps (s : State) : Keeps [.zone] s (lampDerive s) := by
  unfold lampDerive
  dsimp only
  repeat' split
  all_goals repeat' first
    | exact Keeps.refl _ _
    | refine Keeps.comp (post_keeps ..) rfl ?_
    | refine Keeps.comp (setZone_keeps ..) rfl ?_

/-! ## Machine/Queue.lean -/

theorem acceptEntries_keeps (es : List QueueEntry) (s : State) : Keeps [.queue] s (acceptEntries es s) := by
  unfold acceptEntries
  dsimp only
  repeat' first
    | exact Keeps.refl _ _
    | refine Keeps.comp (setQueue_keeps ..) rfl ?_

theorem retireEntry_keeps (e : QueueEntry) (start : Nat) (limit : Option Nat) (s : State) :
    Keeps [.queue] s (retireEntry e start limit s) := by
  unfold retireEntry
  dsimp only
  repeat' split
  all_goals repeat' first
    | exact Keeps.refl _ _
    | refine Keeps.comp (post_keeps ..) rfl ?_
    | refine Keeps.comp (setQueue_keeps ..) rfl ?_

theorem retireHead_keeps (limit : Nat) (s : State) : Keeps [.queue, .jet] s (retireHead limit s) := by
  unfold retireHead
  dsimp only
  repeat' split
  all_goals repeat' first
    | exact Keeps.refl _ _
    | refine Keeps.comp (retireEntry_keeps ..) rfl ?_
    | refine Keeps.comp (setJet_keeps ..) rfl ?_

/-! ## Machine/Planner.lean -/

theorem planCore_keeps (s : State) : Keeps [.plan] s (planCore s) := by
  unfold planCore
  repeat' split
  all_goals repeat' first
    | exact Keeps.refl _ _
    | refine Keeps.comp (setPlan_keeps ..) rfl ?_

/-! ## Machine/Job.lean -/

theorem flush_keeps (s : State) : Keeps [.queue, .plan, .axis] s (flush s) := by
  unfold flush
  repeat' first
    | exact Keeps.refl _ _
    | refine Keeps.comp (setQueue_keeps ..) rfl ?_
    | refine Keeps.comp (setPlan_keeps ..) rfl ?_
    | refine Keeps.comp (setAxis_keeps ..) rfl ?_

/-- Everything an order to stop can make of the line of an axis that moves (R110). -/
theorem stopLine_cases {a : Nat} {own : Bool} {r r' : LineRun} (h : stopLine a own r = some r') :
    r.speed ≠ 0
    ∧ (r' = { r with len := some (r.pos60 / 60 + stopDist r.speed a), v0 := r.speed, vmax := r.speed, acc := a }
          ∧ (∀ l, r.len = some l → r.pos60 / 60 + stopDist r.speed a < l)
        ∨ ∃ l, r.len = some l ∧ l ≤ r.pos60 / 60 + stopDist r.speed a
          ∧ r' = if own then { r with v0 := r.speed, vmax := r.speed, acc := a } else r) := by
  unfold stopLine at h
  split at h
  · cases h
  · refine ⟨‹_›, ?_⟩
    dsimp only at h
    split at h
    · cases h; simp_all
    · split at h
      · cases h; simp_all
      · refine .inr ⟨_, ‹_›, by omega, ?_⟩
        cases own <;> simp_all

/-- What the end of a reference run leaves while an axis still moves (R117). -/
theorem endHoming_cases {a : Nat} {h h' : Homing} (e : endHoming a h = some h') :
    h' = { x := h.stopAxis a h.x, y := h.stopAxis a h.y, timer := none, ending := true }
    ∧ (h'.x.run ≠ none ∨ h'.y.run ≠ none) := by
  simp only [endHoming] at e
  split at e
  · cases e
  · cases e
    simp_all [Option.isNone_iff_eq_none, imp_iff_not_or]

theorem orderStop_keeps (a : Nat) (s : State) : Keeps [.axis] s (orderStop a s) := by
  unfold orderStop
  dsimp only
  repeat' split
  all_goals repeat' first
    | exact Keeps.refl _ _
    | refine Keeps.comp (setAxis_keeps ..) rfl ?_

theorem freeze_keeps (s : State) : Keeps [.job, .axis] s (freeze s) := by
  unfold freeze
  repeat' first
    | exact Keeps.refl _ _
    | refine Keeps.comp (setJob_keeps ..) rfl ?_
    | refine Keeps.comp (setAxis_keeps ..) rfl ?_

theorem clearAtRest_keeps (s : State) : Keeps [.axis] s (clearAtRest s) := by
  unfold clearAtRest
  repeat' split
  all_goals repeat' first
    | exact Keeps.refl _ _
    | refine Keeps.comp (zCommand_keeps ..) rfl ?_

theorem discardHold_keeps (s : State) : Keeps [.job] s (discardHold s) := by
  unfold discardHold
  dsimp only
  repeat' first
    | exact Keeps.refl _ _
    | refine Keeps.comp (clearHold_keeps ..) rfl ?_
    | refine Keeps.comp (setJob_keeps ..) rfl ?_

theorem enterFault_keeps (k : FaultKind) (detail : Nat) (s : State) :
    Keeps [.job, .queue, .plan, .axis, .jet, .pump] s (enterFault k detail s) := by
  unfold enterFault
  extract_lets s1 s2 s3 s4 s5
  have h1 : Keeps [.job, .jet, .pump] s s1 :=
    (closeCommand_keeps _).comp rfl ((discardHold_keeps _).comp rfl ((setState_keeps ..).comp rfl (Keeps.refl _ _)))
  have h2 : Keeps [.job, .axis, .jet, .pump] s s2 := by
    unfold s2
    split
    · exact (freeze_keeps _).comp rfl (h1.comp rfl (Keeps.refl _ _))
    · exact (orderStop_keeps ..).comp rfl (h1.comp rfl (Keeps.refl _ _))
  have h3 : Keeps [.job, .queue, .plan, .axis, .jet, .pump] s s3 :=
    (clearJetRecords_keeps _).comp rfl ((flush_keeps _).comp rfl (h2.comp rfl (Keeps.refl _ _)))
  have h4 : Keeps [.job, .queue, .plan, .axis, .jet, .pump] s s4 := by
    unfold s4
    split
    · exact (levelRequest_keeps ..).comp rfl h3
    · exact (orderStandby_keeps _).comp rfl h3
  exact (clearAtRest_keeps _).comp rfl ((setFault_keeps ..).comp rfl ((setJob_keeps ..).comp rfl h4))

theorem raiseFault_keeps (k : FaultKind) (detail : Nat) (s : State) :
    Keeps [.job, .queue, .plan, .axis, .jet, .pump] s (raiseFault k detail s) := by
  unfold raiseFault
  repeat' split
  all_goals repeat' first
    | exact Keeps.refl _ _
    | refine Keeps.comp (countSecondary_keeps ..) rfl ?_
    | refine Keeps.comp (countInFault_keeps ..) rfl ?_
    | refine Keeps.comp (enterFault_keeps ..) rfl ?_

theorem enterTrip_keeps (k : FaultKind) (detail : Nat) (s : State) :
    Keeps [.job, .queue, .plan, .axis, .jet, .pump] s (enterTrip k detail s) := by
  unfold enterTrip
  dsimp only
  repeat' first
    | exact Keeps.refl _ _
    | refine Keeps.comp (setState_keeps ..) rfl ?_
    | refine Keeps.comp (setFault_keeps ..) rfl ?_
    | refine Keeps.comp (orderTrip_keeps ..) rfl ?_
    | refine Keeps.comp (closeCommand_keeps ..) rfl ?_
    | refine Keeps.comp (clearJetRecords_keeps ..) rfl ?_
    | refine Keeps.comp (flush_keeps ..) rfl ?_
    | refine Keeps.comp (orderStop_keeps ..) rfl ?_
    | refine Keeps.comp (discardHold_keeps ..) rfl ?_
    | refine Keeps.comp (setJob_keeps ..) rfl ?_
    | refine Keeps.comp (setAxis_keeps ..) rfl ?_

theorem raiseTrip_keeps (k : FaultKind) (detail : Nat) (s : State) :
    Keeps [.job, .queue, .plan, .axis, .jet, .pump] s (raiseTrip k detail s) := by
  unfold raiseTrip
  repeat' split
  all_goals repeat' first
    | exact Keeps.refl _ _
    | refine Keeps.comp (countSecondary_keeps ..) rfl ?_
    | refine Keeps.comp (enterTrip_keeps ..) rfl ?_

theorem commitAt_keeps (q : Int) (s : State) : Keeps [.plan] s (commitAt q s) := by
  unfold commitAt
  dsimp only
  repeat' first
    | exact Keeps.refl _ _
    | refine Keeps.comp (setPlan_keeps ..) rfl ?_

theorem closeWatch_keeps (s : State) : Keeps [.plan, .jet, .pump] s (closeWatch s) := by
  unfold closeWatch
  dsimp only
  repeat' split
  all_goals repeat' first
    | exact Keeps.refl _ _
    | refine Keeps.comp (closeCommand_keeps ..) rfl ?_
    | refine Keeps.comp (commitAt_keeps ..) rfl ?_
    | refine Keeps.comp (setPlan_keeps ..) rfl ?_

theorem setHold_keeps (h : HoldRecord) (s : State) : Keeps [.job] s (setHold h s) := by
  unfold setHold
  repeat' split
  all_goals repeat' first
    | exact Keeps.refl _ _
    | refine Keeps.comp (post_keeps ..) rfl ?_
    | refine Keeps.comp (setJob_keeps ..) rfl ?_

theorem dropCreep_keeps (s : State) : Keeps [.plan] s (dropCreep s) := by
  unfold dropCreep
  repeat' first
    | exact Keeps.refl _ _
    | refine Keeps.comp (setPlan_keeps ..) rfl ?_

theorem putHoldStop_keeps (t : Stop) (s : State) : Keeps [.plan] s (putHoldStop t s) :=
  (planCore_keeps _).comp rfl ((setPlan_keeps ..).comp rfl (dropCreep_keeps _))

theorem placeHoldStop_keeps (a : Nat) (s : State) : Keeps [.plan] s (placeHoldStop a s) := putHoldStop_keeps ..

theorem holdHere_keeps (s : State) : Keeps [.plan] s (holdHere s) := putHoldStop_keeps ..

theorem enterHold_keeps (sub : Substate) (r : HoldReason) (z : Option Zone) (w : HoldWay) (s : State) :
    Keeps [.job, .plan, .jet, .pump] s (enterHold sub r z w s) := by
  unfold enterHold
  extract_lets piercing s1 j s2 s3 s4
  have h2 : Keeps [.job, .plan, .jet, .pump] s s2 :=
    (setHold_keeps ..).comp rfl ((setJob_keeps ..).comp rfl ((setState_keeps ..).comp rfl (Keeps.refl _ _)))
  have h3 : Keeps [.job, .plan, .jet, .pump] s s3 := by
    unfold s3
    split
    · exact (closeCommand_keeps _).comp rfl h2
    · exact h2
  have h4 : Keeps [.job, .plan, .jet, .pump] s s4 := by
    unfold s4
    split
    · exact (holdHere_keeps _).comp rfl h3
    · exact (placeHoldStop_keeps ..).comp rfl h3
  exact (closeWatch_keeps _).comp rfl h4

theorem nearerHoldStop_keeps (s : State) : Keeps [.plan] s (nearerHoldStop s) := by
  unfold nearerHoldStop
  dsimp only
  repeat' split
  all_goals repeat' first
    | exact Keeps.refl _ _
    | refine Keeps.comp (planCore_keeps ..) rfl ?_
    | refine Keeps.comp (setPlan_keeps ..) rfl ?_

theorem mergeHold_keeps (r : HoldReason) (z : Option Zone) (w : HoldWay) (s : State) :
    Keeps [.job, .plan, .jet, .pump] s (mergeHold r z w s) := by
  unfold mergeHold
  split
  · exact Keeps.refl _ _
  · extract_lets s1
    have h1 : Keeps [.job, .plan, .jet, .pump] s s1 := (setHold_keeps ..).comp rfl (Keeps.refl _ _)
    split
    · exact (closeWatch_keeps _).comp rfl ((planCore_keeps _).comp rfl h1)
    · exact (closeWatch_keeps _).comp rfl ((holdHere_keeps _).comp rfl h1)
    · split
      · exact (nearerHoldStop_keeps _).comp rfl ((closeCommand_keeps _).comp rfl h1)
      · exact (planCore_keeps _).comp rfl h1

theorem raiseHold_keeps (r : HoldReason) (z : Option Zone) (w : HoldWay) (s : State) :
    Keeps [.job, .plan, .jet, .pump] s (raiseHold r z w s) := by
  unfold raiseHold
  repeat' split
  all_goals repeat' first
    | exact Keeps.refl _ _
    | refine Keeps.comp (enterHold_keeps ..) rfl ?_
    | refine Keeps.comp (mergeHold_keeps ..) rfl ?_

theorem replan_keeps (s : State) : Keeps [.job, .plan, .jet, .pump] s (replan s) := by
  unfold replan
  exact (closeWatch_keeps _).comp rfl ((foldl_keeps _ (fun _ _ => raiseHold_keeps ..) _ _).comp rfl
    ((planCore_keeps _).comp rfl (Keeps.refl _ _)))

theorem heldWhenStill_keeps (s : State) : Keeps [.job] s (heldWhenStill s) := by
  unfold heldWhenStill
  repeat' split
  all_goals repeat' first
    | exact Keeps.refl _ _
    | refine Keeps.comp (setState_keeps ..) rfl ?_

/-! ## Machine/Sequence.lean -/

theorem setStageTimer_keeps (t : Option StageTimer) (s : State) : Keeps [.jet] s (setStageTimer t s) := by
  unfold setStageTimer
  repeat' first
    | exact Keeps.refl _ _
    | refine Keeps.comp (setJet_keeps ..) rfl ?_

theorem jetOpen_keeps (s : State) : Keeps [.job, .plan, .jet, .pump] s (jetOpen s) := by
  unfold jetOpen
  extract_lets j s1 s2
  have h2 : Keeps [.job, .plan, .jet, .pump] s s2 :=
    (dropCreep_keeps _).comp rfl ((pumpSequence_keeps ..).comp rfl ((setJet_keeps ..).comp rfl (Keeps.refl _ _)))
  split
  · exact (enterHold_keeps ..).comp rfl h2
  · exact (replan_keeps _).comp rfl ((setState_keeps ..).comp rfl h2)

theorem checkRamping_keeps (s : State) : Keeps [.job, .plan, .axis, .jet, .pump] s (checkRamping s) := by
  unfold checkRamping
  dsimp only
  repeat' split
  all_goals repeat' first
    | exact Keeps.refl _ _
    | refine Keeps.comp (zCommand_keeps ..) rfl ?_
    | refine Keeps.comp (jetOpen_keeps ..) rfl ?_

theorem enterJetRamping_keeps (s : State) : Keeps [.job, .plan, .axis, .jet, .pump] s (enterJetRamping s) := by
  unfold enterJetRamping
  dsimp only
  repeat' first
    | exact Keeps.refl _ _
    | refine Keeps.comp (levelRequest_keeps ..) rfl ?_
    | refine Keeps.comp (setStageTimer_keeps ..) rfl ?_
    | refine Keeps.comp (checkRamping_keeps ..) rfl ?_
    | refine Keeps.comp (setJet_keeps ..) rfl ?_

theorem layCreep_keeps (r : SeqRecord) (s : State) : Keeps [.plan] s (layCreep r s) := by
  unfold layCreep
  dsimp only
  repeat' split
  all_goals repeat' first
    | exact Keeps.refl _ _
    | refine Keeps.comp (planCore_keeps ..) rfl ?_
    | refine Keeps.comp (setPlan_keeps ..) rfl ?_

theorem valveOpens_keeps (r : SeqRecord) (s : State) : Keeps [.jet, .pump, .wear] s (valveOpens r s) := by
  unfold valveOpens
  dsimp only
  repeat' split
  all_goals repeat' first
    | exact Keeps.refl _ _
    | refine Keeps.comp (pumpValveOpen_keeps ..) rfl ?_
    | refine Keeps.comp (wearTold_keeps ..) rfl ?_
    | refine Keeps.comp (armMonitor_keeps ..) rfl ?_
    | refine Keeps.comp (setJet_keeps ..) rfl ?_

theorem openValve_keeps (s : State) : Keeps [.job, .plan, .axis, .jet, .pump, .wear] s (openValve s) := by
  unfold openValve
  dsimp only
  repeat' split
  all_goals repeat' first
    | exact Keeps.refl _ _
    | refine Keeps.comp (setStageTimer_keeps ..) rfl ?_
    | refine Keeps.comp (enterJetRamping_keeps ..) rfl ?_
    | refine Keeps.comp (layCreep_keeps ..) rfl ?_
    | refine Keeps.comp (valveOpens_keeps ..) rfl ?_
    | refine Keeps.comp (setJet_keeps ..) rfl ?_

theorem endPreparing_keeps (s : State) : Keeps [.job, .plan, .axis, .jet, .pump, .wear] s (endPreparing s) := by
  unfold endPreparing
  dsimp only
  repeat' split
  all_goals repeat' first
    | exact Keeps.refl _ _
    | refine Keeps.comp (setStageTimer_keeps ..) rfl ?_
    | refine Keeps.comp (openValve_keeps ..) rfl ?_
    | refine Keeps.comp (setJet_keeps ..) rfl ?_

theorem checkPreparing_keeps (s : State) : Keeps [.job, .plan, .axis, .jet, .pump, .wear] s (checkPreparing s) := by
  unfold checkPreparing
  repeat' split
  all_goals repeat' first
    | exact Keeps.refl _ _
    | refine Keeps.comp (setStageTimer_keeps ..) rfl ?_
    | refine Keeps.comp (endPreparing_keeps ..) rfl ?_

theorem enterPreparing_keeps (s : State) : Keeps [.job, .plan, .axis, .jet, .pump, .wear] s (enterPreparing s) := by
  unfold enterPreparing
  dsimp only
  repeat' split
  all_goals repeat' first
    | exact Keeps.refl _ _
    | refine Keeps.comp (levelRequest_keeps ..) rfl ?_
    | refine Keeps.comp (pumpSequence_keeps ..) rfl ?_
    | refine Keeps.comp (zCommand_keeps ..) rfl ?_
    | refine Keeps.comp (checkPreparing_keeps ..) rfl ?_
    | refine Keeps.comp (setJet_keeps ..) rfl ?_

theorem seqAdvance_keeps (s : State) : Keeps [.job, .plan, .axis, .jet, .pump, .wear] s (seqAdvance s) := by
  unfold seqAdvance
  repeat' split
  all_goals repeat' first
    | exact Keeps.refl _ _
    | refine Keeps.comp (checkRamping_keeps ..) rfl ?_
    | refine Keeps.comp (checkPreparing_keeps ..) rfl ?_

theorem beginSequence_keeps (s : State) : Keeps [.job, .plan, .axis, .jet, .pump, .wear] s (beginSequence s) := by
  unfold beginSequence
  dsimp only
  repeat' split
  all_goals repeat' first
    | exact Keeps.refl _ _
    | refine Keeps.comp (enterPreparing_keeps ..) rfl ?_
    | refine Keeps.comp (setJet_keeps ..) rfl ?_

/-! ## Machine/Motion.lean -/

theorem placeApproach_keeps (s : State) : Keeps [.plan] s (placeApproach s) := by
  unfold placeApproach
  repeat' split
  all_goals repeat' first
    | exact Keeps.refl _ _
    | refine Keeps.comp (setPlan_keeps ..) rfl ?_

theorem clearForTraverse_keeps (s : State) : Keeps [.axis] s (clearForTraverse s) := by
  unfold clearForTraverse
  repeat' split
  all_goals repeat' first
    | exact Keeps.refl _ _
    | refine Keeps.comp (zCommand_keeps ..) rfl ?_

theorem beginNeed_keeps (n : Need) (s : State) : Keeps [.job, .plan, .axis, .jet, .pump, .wear] s (beginNeed n s) := by
  unfold beginNeed
  repeat' split
  all_goals repeat' first
    | exact Keeps.refl _ _
    | refine Keeps.comp (setState_keeps ..) rfl ?_
    | refine Keeps.comp (planCore_keeps ..) rfl ?_
    | refine Keeps.comp (beginSequence_keeps ..) rfl ?_
    | refine Keeps.comp (clearForTraverse_keeps ..) rfl ?_

theorem proceed_keeps (s : State) : Keeps [.job, .plan, .axis, .jet, .pump, .wear] s (proceed s) := by
  unfold proceed
  extract_lets n w s1
  have h1 : Keeps [.job, .plan, .axis, .jet, .pump, .wear] s s1 := by
    unfold s1
    split
    · exact Keeps.refl _ _
    · exact (setState_keeps ..).comp rfl (Keeps.refl _ _)
  split
  · exact (beginNeed_keeps ..).comp rfl (Keeps.refl _ _)
  · split
    · exact (clearForTraverse_keeps _).comp rfl ((setState_keeps ..).comp rfl (Keeps.refl _ _))
    · exact (foldl_keeps _ (fun _ _ => raiseHold_keeps ..) _ _).comp rfl h1

theorem recoveryStart_keeps (s : State) : Keeps [.queue, .plan, .axis, .jet] s (recoveryStart s) := by
  unfold recoveryStart
  dsimp only
  repeat' split
  all_goals repeat' first
    | exact Keeps.refl _ _
    | refine Keeps.comp (post_keeps ..) rfl ?_
    | refine Keeps.comp (setQueue_keeps ..) rfl ?_
    | refine Keeps.comp (setPlan_keeps ..) rfl ?_
    | refine Keeps.comp (setAxis_keeps ..) rfl ?_
    | refine Keeps.comp (setJet_keeps ..) rfl ?_

theorem clearRecovery_keeps (s : State) : Keeps [.jet] s (clearRecovery s) := by
  unfold clearRecovery
  repeat' first
    | exact Keeps.refl _ _
    | refine Keeps.comp (setJet_keeps ..) rfl ?_

theorem recoveryPassed_keeps (s : State) : Keeps [.jet] s (recoveryPassed s) := by
  unfold recoveryPassed
  repeat' split
  all_goals repeat' first
    | exact Keeps.refl _ _
    | refine Keeps.comp (clearRecovery_keeps ..) rfl ?_

theorem endContour_keeps (s : State) : Keeps [.jet] s (endContour s) := setJet_keeps ..

theorem retireEnd_keeps (e : QueueEntry) (s : State) : Keeps [.job, .queue, .plan, .axis, .jet] s (retireEnd e s) := by
  unfold retireEnd
  dsimp only
  repeat' first
    | exact Keeps.refl _ _
    | refine Keeps.comp (setState_keeps ..) rfl ?_
    | refine Keeps.comp (zCommand_keeps ..) rfl ?_
    | refine Keeps.comp (retireEntry_keeps ..) rfl ?_
    | refine Keeps.comp (planCore_keeps ..) rfl ?_
    | refine Keeps.comp (setPlan_keeps ..) rfl ?_
    | refine Keeps.comp (endContour_keeps ..) rfl ?_

theorem runSettle_keeps (s : State) : Keeps [.job, .queue, .plan, .axis, .jet] s (runSettle s) := by
  unfold runSettle
  repeat' split
  all_goals repeat' first
    | exact Keeps.refl _ _
    | refine Keeps.comp (setState_keeps ..) rfl ?_
    | refine Keeps.comp (retireEnd_keeps ..) rfl ?_

theorem abortSettle_keeps (s : State) : Keeps [.job, .queue, .plan, .axis, .jet] s (abortSettle s) := by
  unfold abortSettle
  repeat' split
  all_goals repeat' first
    | exact Keeps.refl _ _
    | refine Keeps.comp (setState_keeps ..) rfl ?_
    | refine Keeps.comp (zCommand_keeps ..) rfl ?_
    | refine Keeps.comp (clearJetRecords_keeps ..) rfl ?_
    | refine Keeps.comp (flush_keeps ..) rfl ?_

theorem recoveryAtStop_keeps (s : State) : Keeps [.jet] s (recoveryAtStop s) := by
  unfold recoveryAtStop
  repeat' split
  all_goals repeat' first
    | exact Keeps.refl _ _
    | refine Keeps.comp (clearRecovery_keeps ..) rfl ?_

theorem recoveryInHold_keeps (s : State) : Keeps [.jet] s (recoveryInHold s) := by
  unfold recoveryInHold
  split
  · exact recoveryAtStop_keeps s
  · exact Keeps.refl _ _

theorem recoveryAtSwitch_keeps (s : State) : Keeps [.jet] s (recoveryAtSwitch s) := by
  unfold recoveryAtSwitch
  split
  · exact recoveryAtStop_keeps s
  · exact Keeps.refl _ _

theorem holdSettle_keeps (s : State) : Keeps [.job, .jet] s (holdSettle s) := by
  unfold holdSettle
  refine (heldWhenStill_keeps _).comp rfl ?_
  split
  · exact (recoveryInHold_keeps s).comp rfl (Keeps.refl _ _)
  · exact Keeps.refl _ _

theorem settle_keeps (s : State) : Keeps [.job, .queue, .plan, .axis, .jet] s (settle s) := by
  unfold settle
  repeat' split
  all_goals repeat' first
    | exact Keeps.refl _ _
    | refine Keeps.comp (holdSettle_keeps ..) rfl ?_
    | refine Keeps.comp (runSettle_keeps ..) rfl ?_
    | refine Keeps.comp (abortSettle_keeps ..) rfl ?_

theorem beginTraverse_keeps (l : Leg) (s : State) : Keeps [.jet] s (beginTraverse l s) := by
  unfold beginTraverse
  repeat' split
  all_goals repeat' first
    | exact Keeps.refl _ _
    | refine Keeps.comp (endContour_keeps ..) rfl ?_

theorem leaveRecovery_keeps (s : State) : Keeps [.queue, .plan, .axis] s (leaveRecovery s) := by
  unfold leaveRecovery
  dsimp only
  repeat' split
  all_goals repeat' first
    | exact Keeps.refl _ _
    | refine Keeps.comp (setQueue_keeps ..) rfl ?_
    | refine Keeps.comp (setPlan_keeps ..) rfl ?_
    | refine Keeps.comp (setAxis_keeps ..) rfl ?_

theorem finishLeg_keeps (l : Leg) (s : State) : Keeps [.queue, .plan, .axis, .jet] s (finishLeg l s) := by
  unfold finishLeg
  extract_lets former p a s1
  have h1 : Keeps [.queue, .plan, .axis, .jet] s s1 :=
    (setAxis_keeps ..).comp rfl ((setPlan_keeps ..).comp rfl (Keeps.refl _ _))
  split
  · exact (setPlan_keeps ..).comp rfl h1
  · exact (retireHead_keeps ..).comp rfl h1
  · exact (leaveRecovery_keeps _).comp rfl h1
  · exact h1

theorem crossLegs_keeps (n : Nat) (s : State) : Keeps [.queue, .plan, .axis, .jet] s (crossLegs n s) := by
  induction n generalizing s with
  | zero => exact Keeps.refl _ _
  | succ n ih =>
    unfold crossLegs
    split
    · exact Keeps.refl _ _
    · split
      · exact (ih _).comp rfl (finishLeg_keeps ..)
      · exact Keeps.refl _ _

theorem takeProgress_keeps (s : State) : Keeps [.queue] s (takeProgress s) := by
  unfold takeProgress
  repeat' split
  all_goals repeat' first
    | exact Keeps.refl _ _
    | refine Keeps.comp (setQueue_keeps ..) rfl ?_

theorem placeHead_keeps (s : State) : Keeps [.axis] s (placeHead s) := by
  unfold placeHead
  repeat' split
  all_goals repeat' first
    | exact Keeps.refl _ _
    | refine Keeps.comp (setAxis_keeps ..) rfl ?_

theorem pathPoint_keeps (s : State) : Keeps [.axis] s (pathPoint s) := by
  unfold pathPoint
  repeat' split
  all_goals repeat' first
    | exact Keeps.refl _ _
    | refine Keeps.comp (placeHead_keeps ..) rfl ?_
    | refine Keeps.comp (setAxis_keeps ..) rfl ?_

theorem takeStep_keeps (s : State) : Keeps [.queue, .plan, .axis, .jet] s (takeStep s) := by
  unfold takeStep
  extract_lets s1
  have h1 : Keeps [.queue, .plan, .axis, .jet] s s1 := crossLegs_keeps ..
  refine (takeProgress_keeps _).comp rfl ?_
  split
  · exact h1
  · exact (pathPoint_keeps _).comp rfl h1

theorem pathPeriod_keeps (s : State) : Keeps [.queue, .plan, .axis, .jet] s (pathPeriod s) := by
  unfold pathPeriod
  split
  · split
    · exact (finishLeg_keeps ..).comp rfl ((beginTraverse_keeps ..).comp rfl (Keeps.refl _ _))
    · extract_lets step a s1 s2
      have h1 : Keeps [.queue, .plan, .axis, .jet] s s1 := (setAxis_keeps ..).comp rfl (Keeps.refl _ _)
      have h2 : Keeps [.queue, .plan, .axis, .jet] s s2 := by
        unfold s2
        split
        · exact (beginTraverse_keeps ..).comp rfl h1
        · exact h1
      split
      · exact (pathPoint_keeps _).comp rfl h1
      · exact (recoveryPassed_keeps _).comp rfl ((takeStep_keeps _).comp rfl h2)
  · exact (setAxis_keeps ..).comp rfl (Keeps.refl _ _)

theorem commitHere_keeps (s : State) : Keeps [.plan] s (commitHere s) := by
  unfold commitHere
  dsimp only
  repeat' first
    | exact Keeps.refl _ _
    | refine Keeps.comp (setPlan_keeps ..) rfl ?_

theorem backtrackDone_keeps (s : State) : Keeps [.queue, .plan, .axis] s (backtrackDone s) := by
  unfold backtrackDone
  repeat' first
    | exact Keeps.refl _ _
    | refine Keeps.comp (planCore_keeps ..) rfl ?_
    | refine Keeps.comp (setQueue_keeps ..) rfl ?_
    | refine Keeps.comp (setPlan_keeps ..) rfl ?_
    | refine Keeps.comp (setAxis_keeps ..) rfl ?_

theorem arriveMoving_keeps (s : State) : Keeps [.job, .plan, .axis, .jet, .pump, .wear] s (arriveMoving s) := by
  unfold arriveMoving
  repeat' split
  all_goals repeat' first
    | exact Keeps.refl _ _
    | refine Keeps.comp (planCore_keeps ..) rfl ?_
    | refine Keeps.comp (clearForTraverse_keeps ..) rfl ?_
    | refine Keeps.comp (proceed_keeps ..) rfl ?_

theorem arriveInside_keeps (s : State) : Keeps [.job, .plan, .jet, .pump] s (arriveInside s) :=
  foldl_keeps _ (fun _ _ => raiseHold_keeps ..) _ _

theorem arriveHolding_keeps (s : State) : Keeps [.job, .plan, .jet, .pump] s (arriveHolding s) := by
  unfold arriveHolding
  repeat' split
  all_goals repeat' first
    | exact Keeps.refl _ _
    | refine Keeps.comp (arriveInside_keeps ..) rfl ?_
    | refine Keeps.comp (closeWatch_keeps ..) rfl ?_
    | refine Keeps.comp (holdHere_keeps ..) rfl ?_

theorem arrivePiercing_keeps (s : State) : Keeps [.job, .plan, .axis, .jet, .pump] s (arrivePiercing s) := by
  unfold arrivePiercing
  repeat' split
  all_goals repeat' first
    | exact Keeps.refl _ _
    | refine Keeps.comp (enterJetRamping_keeps ..) rfl ?_
    | refine Keeps.comp (arriveInside_keeps ..) rfl ?_

theorem arrive_keeps (s : State) : Keeps [.job, .queue, .plan, .axis, .jet, .pump, .wear] s (arrive s) := by
  unfold arrive
  dsimp only
  repeat' split
  all_goals repeat' first
    | exact Keeps.refl _ _
    | refine Keeps.comp (proceed_keeps ..) rfl ?_
    | refine Keeps.comp (commitHere_keeps ..) rfl ?_
    | refine Keeps.comp (recoveryAtStop_keeps ..) rfl ?_
    | refine Keeps.comp (recoveryInHold_keeps ..) rfl ?_
    | refine Keeps.comp (backtrackDone_keeps ..) rfl ?_
    | refine Keeps.comp (arriveMoving_keeps ..) rfl ?_
    | refine Keeps.comp (arriveHolding_keeps ..) rfl ?_
    | refine Keeps.comp (arrivePiercing_keeps ..) rfl ?_

/-! ## Machine/Axis.lean -/

theorem clearAfterStop_keeps (s : State) : Keeps [.axis] s (clearAfterStop s) := by
  unfold clearAfterStop
  repeat' split
  all_goals repeat' first
    | exact Keeps.refl _ _
    | refine Keeps.comp (zCommand_keeps ..) rfl ?_

theorem stopRunPeriod_keeps (r : StopRun) (s : State) : Keeps [.axis] s (stopRunPeriod r s) := by
  unfold stopRunPeriod
  dsimp only
  repeat' split
  all_goals repeat' first
    | exact Keeps.refl _ _
    | refine Keeps.comp (clearAfterStop_keeps ..) rfl ?_
    | refine Keeps.comp (setAxis_keeps ..) rfl ?_

theorem followCheck_keeps (s : State) : Keeps [.job, .queue, .plan, .axis, .jet, .pump] s (followCheck s) := by
  unfold followCheck
  dsimp only
  repeat' split
  all_goals repeat' first
    | exact Keeps.refl _ _
    | refine Keeps.comp (raiseFault_keeps ..) rfl ?_
    | refine Keeps.comp (setAxis_keeps ..) rfl ?_

theorem driveCheck_keeps (s : State) : Keeps [.job, .queue, .plan, .axis, .jet, .pump] s (driveCheck s) := by
  unfold driveCheck
  repeat' split
  all_goals repeat' first
    | exact Keeps.refl _ _
    | refine Keeps.comp (raiseFault_keeps ..) rfl ?_

theorem putHoming_keeps (h : Homing) (x y : AxisStep) (s : State) : Keeps [.axis] s (putHoming h x y s) := by
  unfold putHoming
  repeat' first
    | exact Keeps.refl _ _
    | refine Keeps.comp (setAxis_keeps ..) rfl ?_

theorem homingSuccess_keeps (s : State) : Keeps [.job, .plan, .axis] s (homingSuccess s) := by
  unfold homingSuccess
  dsimp only
  repeat' split
  all_goals repeat' first
    | exact Keeps.refl _ _
    | refine Keeps.comp (setState_keeps ..) rfl ?_
    | refine Keeps.comp (planCore_keeps ..) rfl ?_
    | refine Keeps.comp (setJob_keeps ..) rfl ?_
    | refine Keeps.comp (setAxis_keeps ..) rfl ?_

theorem homingSeek_keeps (s : State) : Keeps [.job, .plan, .axis] s (homingSeek s) := by
  unfold homingSeek
  dsimp only
  repeat' split
  all_goals repeat' first
    | exact Keeps.refl _ _
    | refine Keeps.comp (putHoming_keeps ..) rfl ?_
    | refine Keeps.comp (homingSuccess_keeps ..) rfl ?_

theorem homingPeriod_keeps (h : Homing) (s : State) : Keeps [.job, .plan, .axis] s (homingPeriod h s) := by
  unfold homingPeriod
  dsimp only
  repeat' split
  all_goals repeat' first
    | exact Keeps.refl _ _
    | refine Keeps.comp (clearAfterStop_keeps ..) rfl ?_
    | refine Keeps.comp (putHoming_keeps ..) rfl ?_
    | refine Keeps.comp (homingSuccess_keeps ..) rfl ?_
    | refine Keeps.comp (homingSeek_keeps ..) rfl ?_
    | refine Keeps.comp (setAxis_keeps ..) rfl ?_

theorem sample_keeps (fb : Point) (homeX homeY : Bool) (s : State) :
    Keeps [.axis, .lines] s (sample fb homeX homeY s) := by
  unfold sample
  repeat' first
    | exact Keeps.refl _ _
    | refine Keeps.comp (setAxis_keeps ..) rfl ?_
    | refine Keeps.comp (setLines_keeps ..) rfl ?_

theorem motion_keeps (s : State) : Keeps [.job, .queue, .plan, .axis, .jet] s (motion s) := by
  unfold motion
  repeat' split
  all_goals repeat' first
    | exact Keeps.refl _ _
    | refine Keeps.comp (pathPeriod_keeps ..) rfl ?_
    | refine Keeps.comp (stopRunPeriod_keeps ..) rfl ?_
    | refine Keeps.comp (homingSeek_keeps ..) rfl ?_
    | refine Keeps.comp (homingPeriod_keeps ..) rfl ?_
    | refine Keeps.comp (setAxis_keeps ..) rfl ?_

theorem period_keeps (fb : Point) (homeX homeY : Bool) (s : State) :
    Keeps [.job, .queue, .plan, .axis, .jet, .pump, .wear, .lines] s (period fb homeX homeY s) := by
  unfold period
  repeat' first
    | exact Keeps.refl _ _
    | refine Keeps.comp (closeWatch_keeps ..) rfl ?_
    | refine Keeps.comp (settle_keeps ..) rfl ?_
    | refine Keeps.comp (arrive_keeps ..) rfl ?_
    | refine Keeps.comp (followCheck_keeps ..) rfl ?_
    | refine Keeps.comp (sample_keeps ..) rfl ?_
    | refine Keeps.comp (motion_keeps ..) rfl ?_

/-! ## Machine/QueueRequests.lean -/

theorem done_keeps (s : State) : Keeps [.job, .queue, .plan, .axis, .jet, .zone] s (done s) := by
  unfold done
  repeat' first
    | exact Keeps.refl _ _
    | refine Keeps.comp (lampDerive_keeps ..) rfl ?_
    | refine Keeps.comp (settle_keeps ..) rfl ?_

theorem afterAppend_keeps (s : State) :
    Keeps [.job, .queue, .plan, .axis, .jet, .pump, .zone, .wear] s (afterAppend s) := by
  unfold afterAppend
  repeat' split
  all_goals repeat' first
    | exact Keeps.refl _ _
    | refine Keeps.comp (planCore_keeps ..) rfl ?_
    | refine Keeps.comp (replan_keeps ..) rfl ?_
    | refine Keeps.comp (placeApproach_keeps ..) rfl ?_
    | refine Keeps.comp (proceed_keeps ..) rfl ?_
    | refine Keeps.comp (done_keeps ..) rfl ?_

/-! ## Machine/AxisEvents.lean -/

theorem homingTimedOut_keeps (s : State) : Keeps [.job, .queue, .plan, .axis, .jet, .pump] s (homingTimedOut s) := by
  unfold homingTimedOut
  repeat' split
  all_goals repeat' first
    | exact Keeps.refl _ _
    | refine Keeps.comp (raiseFault_keeps ..) rfl ?_
    | refine Keeps.comp (setAxis_keeps ..) rfl ?_

theorem zTimedOut_keeps (s : State) : Keeps [.job, .queue, .plan, .axis, .jet, .pump] s (zTimedOut s) := by
  unfold zTimedOut
  dsimp only
  repeat' split
  all_goals repeat' first
    | exact Keeps.refl _ _
    | refine Keeps.comp (raiseFault_keeps ..) rfl ?_
    | refine Keeps.comp (setAxis_keeps ..) rfl ?_

/-! ## Machine/JetEvents.lean -/

theorem settleExpiry_keeps (s : State) :
    Keeps [.job, .queue, .plan, .axis, .jet, .pump, .zone, .wear] s (settleExpiry s) := by
  unfold settleExpiry
  repeat' split
  all_goals repeat' first
    | exact Keeps.refl _ _
    | refine Keeps.comp (endPreparing_keeps ..) rfl ?_
    | refine Keeps.comp (done_keeps ..) rfl ?_

theorem leadExpiry_keeps (s : State) :
    Keeps [.job, .queue, .plan, .axis, .jet, .pump, .zone, .wear] s (leadExpiry s) := by
  unfold leadExpiry
  repeat' split
  all_goals repeat' first
    | exact Keeps.refl _ _
    | refine Keeps.comp (openValve_keeps ..) rfl ?_
    | refine Keeps.comp (done_keeps ..) rfl ?_

theorem dwellExpiry_keeps (s : State) : Keeps [.job, .queue, .plan, .axis, .jet, .pump, .zone] s (dwellExpiry s) := by
  unfold dwellExpiry
  repeat' split
  all_goals repeat' first
    | exact Keeps.refl _ _
    | refine Keeps.comp (enterJetRamping_keeps ..) rfl ?_
    | refine Keeps.comp (done_keeps ..) rfl ?_

theorem jetClosedNow_keeps (s : State) : Keeps [.job, .plan, .axis, .jet, .pump, .wear] s (jetClosedNow s) := by
  unfold jetClosedNow
  exact (enterPreparing_keeps _).comp rfl ((pumpValveClosed_keeps _).comp rfl ((wearTold_keeps ..).comp rfl
    ((recoveryAtSwitch_keeps _).comp rfl ((setJet_keeps ..).comp rfl (Keeps.refl _ _)))))

theorem switchActive_keeps (s : State) :
    Keeps [.job, .queue, .plan, .axis, .jet, .pump, .zone, .wear, .lines] s (switchActive s) := by
  unfold switchActive
  dsimp only
  repeat' split
  all_goals repeat' first
    | exact Keeps.refl _ _
    | refine Keeps.comp (done_keeps ..) rfl ?_
    | refine Keeps.comp (jetClosedNow_keeps ..) rfl ?_
    | refine Keeps.comp (setLines_keeps ..) rfl ?_

theorem switchInactive_keeps (s : State) : Keeps [.jet, .pump, .wear, .lines] s (switchInactive s) := by
  unfold switchInactive
  dsimp only
  repeat' split
  all_goals repeat' first
    | exact Keeps.refl _ _
    | refine Keeps.comp (pumpValveOpen_keeps ..) rfl ?_
    | refine Keeps.comp (wearTold_keeps ..) rfl ?_
    | refine Keeps.comp (setJet_keeps ..) rfl ?_
    | refine Keeps.comp (setLines_keeps ..) rfl ?_

theorem valveCondition_keeps (started : CtrlState) (s : State) :
    Keeps [.job, .queue, .plan, .axis, .jet, .pump] s (valveCondition started s) := by
  unfold valveCondition
  repeat' split
  all_goals repeat' first
    | exact Keeps.refl _ _
    | refine Keeps.comp (raiseFault_keeps ..) rfl ?_
    | refine Keeps.comp (raiseTrip_keeps ..) rfl ?_

theorem valveTimedOut_keeps (s : State) :
    Keeps [.job, .queue, .plan, .axis, .jet, .pump, .zone] s (valveTimedOut s) := by
  unfold valveTimedOut
  repeat' split
  all_goals repeat' first
    | exact Keeps.refl _ _
    | refine Keeps.comp (done_keeps ..) rfl ?_
    | refine Keeps.comp (valveCondition_keeps ..) rfl ?_
    | refine Keeps.comp (setJet_keeps ..) rfl ?_

theorem abrasiveLoss_keeps (s : State) : Keeps [.job, .queue, .plan, .axis, .jet, .pump] s (abrasiveLoss s) := by
  unfold abrasiveLoss
  repeat' split
  all_goals repeat' first
    | exact Keeps.refl _ _
    | refine Keeps.comp (raiseFault_keeps ..) rfl ?_
    | refine Keeps.comp (raiseHold_keeps ..) rfl ?_

theorem windowExpiry_keeps (s : State) : Keeps [.job, .queue, .plan, .axis, .jet, .pump, .zone] s (windowExpiry s) := by
  unfold windowExpiry
  repeat' split
  all_goals repeat' first
    | exact Keeps.refl _ _
    | refine Keeps.comp (done_keeps ..) rfl ?_
    | refine Keeps.comp (abrasiveLoss_keeps ..) rfl ?_
    | refine Keeps.comp (setJet_keeps ..) rfl ?_

/-! ## Machine/Wear.lean -/

theorem wearCompare_keeps (n : NozzleRec) (s : State) : Keeps [.wear] s (wearCompare n s) := by
  unfold wearCompare
  dsimp only
  repeat' split
  all_goals repeat' first
    | exact Keeps.refl _ _
    | refine Keeps.comp (post_keeps ..) rfl ?_
    | refine Keeps.comp (setWear_keeps ..) rfl ?_

theorem minuteRise_keeps (n : NozzleRec) (s : State) : Keeps [.wear] s (minuteRise n s) := by
  unfold minuteRise
  dsimp only
  repeat' first
    | exact Keeps.refl _ _
    | refine Keeps.comp (wearCompare_keeps ..) rfl ?_
    | refine Keeps.comp (setWear_keeps ..) rfl ?_

theorem nozzleAccepted_keeps (n : NozzleRec) (used : Nat) (s : State) : Keeps [.wear] s (nozzleAccepted n used s) := by
  unfold nozzleAccepted
  repeat' first
    | exact Keeps.refl _ _
    | refine Keeps.comp (wearCompare_keeps ..) rfl ?_
    | refine Keeps.comp (setWear_keeps ..) rfl ?_

/-! ## Machine/Reset.lean -/

theorem tripsAfterReset_keeps (s : State) :
    Keeps [.job, .queue, .plan, .axis, .jet, .pump] s (tripsAfterReset s) := by
  unfold tripsAfterReset
  exact foldl_keeps _ (fun t k => raiseTrip_keeps ..) _ _

theorem warmJet_keeps (s : State) : Keeps [.jet, .pump] s (warmJet s) := by
  unfold warmJet
  dsimp only
  repeat' split
  all_goals repeat' first
    | exact Keeps.refl _ _
    | refine Keeps.comp (endSequence_keeps ..) rfl ?_
    | refine Keeps.comp (clearJetRecords_keeps ..) rfl ?_
    | refine Keeps.comp (setJet_keeps ..) rfl ?_

theorem warmJob_keeps (s : State) : Keeps [.job] s (warmJob s) := by
  unfold warmJob
  repeat' split
  all_goals repeat' first
    | exact Keeps.refl _ _
    | refine Keeps.comp (setJob_keeps ..) rfl ?_

theorem warmPump_keeps (s : State) : Keeps [.pump] s (warmPump s) := by
  unfold warmPump
  dsimp only
  repeat' first
    | exact Keeps.refl _ _
    | refine Keeps.comp (ladder_keeps ..) rfl ?_
    | refine Keeps.comp (orderStandby_keeps ..) rfl ?_
    | refine Keeps.comp (setPump_keeps ..) rfl ?_

theorem warmAxis_keeps (s : State) : Keeps [.axis] s (warmAxis s) := by
  unfold warmAxis
  dsimp only
  repeat' split
  all_goals repeat' first
    | exact Keeps.refl _ _
    | refine Keeps.comp (orderStop_keeps ..) rfl ?_
    | refine Keeps.comp (setAxis_keeps ..) rfl ?_

theorem warmZ_keeps (s : State) : Keeps [.axis] s (warmZ s) := by
  unfold warmZ
  repeat' split
  all_goals repeat' first
    | exact Keeps.refl _ _
    | refine Keeps.comp (zTimerOnConfigured_keeps ..) rfl ?_
    | refine Keeps.comp (clearAtRest_keeps ..) rfl ?_

theorem afterWarmReset_keeps (s : State) :
    Keeps [.job, .queue, .plan, .axis, .jet, .pump, .zone] s (afterWarmReset s) := by
  unfold afterWarmReset
  repeat' first
    | exact Keeps.refl _ _
    | refine Keeps.comp (lampDerive_keeps ..) rfl ?_
    | refine Keeps.comp (driveCheck_keeps ..) rfl ?_
    | refine Keeps.comp (tripsAfterReset_keeps ..) rfl ?_

/-! ## Machine/JobRequests.lean -/

theorem startRun_keeps (s : State) : Keeps [.job, .queue, .plan, .axis, .jet, .pump, .zone, .wear] s (startRun s) := by
  unfold startRun
  dsimp only
  repeat' first
    | exact Keeps.refl _ _
    | refine Keeps.comp (planCore_keeps ..) rfl ?_
    | refine Keeps.comp (placeApproach_keeps ..) rfl ?_
    | refine Keeps.comp (proceed_keeps ..) rfl ?_
    | refine Keeps.comp (done_keeps ..) rfl ?_
    | refine Keeps.comp (setAxis_keeps ..) rfl ?_

theorem takeHold_keeps (s : State) : Keeps [.job, .plan, .jet, .pump] s (takeHold s) := by
  unfold takeHold
  repeat' split
  all_goals repeat' first
    | exact Keeps.refl _ _
    | refine Keeps.comp (enterHold_keeps ..) rfl ?_

theorem takeResume_keeps (s : State) :
    Keeps [.job, .queue, .plan, .axis, .jet, .pump, .zone, .wear] s (takeResume s) := by
  unfold takeResume
  dsimp only
  repeat' split
  all_goals repeat' first
    | exact Keeps.refl _ _
    | refine Keeps.comp (clearHold_keeps ..) rfl ?_
    | refine Keeps.comp (planCore_keeps ..) rfl ?_
    | refine Keeps.comp (placeApproach_keeps ..) rfl ?_
    | refine Keeps.comp (proceed_keeps ..) rfl ?_
    | refine Keeps.comp (recoveryStart_keeps ..) rfl ?_
    | refine Keeps.comp (done_keeps ..) rfl ?_
    | refine Keeps.comp (setPlan_keeps ..) rfl ?_

theorem placeAbortStop_keeps (s : State) : Keeps [.plan] s (placeAbortStop s) := by
  unfold placeAbortStop
  exact setPlan_keeps ..

theorem stopHoming_keeps (s : State) : Keeps [.job, .axis] s (stopHoming s) := by
  unfold stopHoming
  exact (setJob_keeps ..).comp rfl ((orderStop_keeps ..).comp rfl (Keeps.refl _ _))

theorem enterAborting_keeps (s : State) : Keeps [.job, .plan, .axis, .jet, .pump] s (enterAborting s) := by
  unfold enterAborting
  extract_lets homing s1
  have h1 : Keeps [.job, .plan, .axis, .jet, .pump] s s1 :=
    (closeCommand_keeps _).comp rfl ((discardHold_keeps _).comp rfl ((setState_keeps ..).comp rfl (Keeps.refl _ _)))
  refine (placeAbortStop_keeps _).comp rfl ?_
  split
  · exact (stopHoming_keeps _).comp rfl h1
  · exact h1

theorem stopIdle_keeps (s : State) : Keeps [.queue, .plan, .axis, .jet] s (stopIdle s) := by
  unfold stopIdle
  dsimp only
  repeat' first
    | exact Keeps.refl _ _
    | refine Keeps.comp (flush_keeps ..) rfl ?_
    | refine Keeps.comp (setJet_keeps ..) rfl ?_

theorem takeClear_keeps (s : State) : Keeps [.job, .queue, .plan, .axis, .jet, .zone] s (takeClear s) := by
  unfold takeClear
  dsimp only
  repeat' split
  all_goals repeat' first
    | exact Keeps.refl _ _
    | refine Keeps.comp (setState_keeps ..) rfl ?_
    | refine Keeps.comp (setFault_keeps ..) rfl ?_
    | refine Keeps.comp (planCore_keeps ..) rfl ?_
    | refine Keeps.comp (clearAfterStop_keeps ..) rfl ?_
    | refine Keeps.comp (done_keeps ..) rfl ?_
    | refine Keeps.comp (setJob_keeps ..) rfl ?_
    | refine Keeps.comp (setAxis_keeps ..) rfl ?_

theorem takeReference_keeps (s : State) : Keeps [.job, .queue, .plan, .axis, .jet, .zone] s (takeReference s) := by
  unfold takeReference
  dsimp only
  repeat' first
    | exact Keeps.refl _ _
    | refine Keeps.comp (setState_keeps ..) rfl ?_
    | refine Keeps.comp (zCommand_keeps ..) rfl ?_
    | refine Keeps.comp (planCore_keeps ..) rfl ?_
    | refine Keeps.comp (homingSeek_keeps ..) rfl ?_
    | refine Keeps.comp (done_keeps ..) rfl ?_
    | refine Keeps.comp (setJob_keeps ..) rfl ?_
    | refine Keeps.comp (setAxis_keeps ..) rfl ?_

theorem overridePlan_keeps (former : Nat) (s : State) : Keeps [.job, .plan, .jet, .pump] s (overridePlan former s) := by
  unfold overridePlan
  dsimp only
  repeat' first
    | exact Keeps.refl _ _
    | refine Keeps.comp (planCore_keeps ..) rfl ?_
    | refine Keeps.comp (replan_keeps ..) rfl ?_
    | refine Keeps.comp (setPlan_keeps ..) rfl ?_

theorem takeOverride_keeps (percent : Nat) (s : State) :
    Keeps [.job, .queue, .plan, .axis, .jet, .pump, .zone] s (takeOverride percent s) := by
  unfold takeOverride
  extract_lets j s1
  have h1 : Keeps [.job, .queue, .plan, .axis, .jet, .pump, .zone] s s1 := (setJob_keeps ..).comp rfl (Keeps.refl _ _)
  split
  · exact (done_keeps _).comp rfl ((overridePlan_keeps ..).comp rfl h1)
  · exact (done_keeps _).comp rfl ((overridePlan_keeps ..).comp rfl h1)
  all_goals exact h1

/-! ## Machine/PumpEvents.lean -/

theorem runningLost_keeps (s : State) : Keeps [.job, .queue, .plan, .axis, .jet, .pump] s (runningLost s) := by
  unfold runningLost
  repeat' split
  all_goals repeat' first
    | exact Keeps.refl _ _
    | refine Keeps.comp (enterStarting_keeps ..) rfl ?_
    | refine Keeps.comp (raiseFault_keeps ..) rfl ?_

/-! ## Machine/ZoneEvents.lean -/

theorem guardOpensHolding_keeps (z : Zone) (s : State) :
    Keeps [.job, .plan, .jet, .pump] s (guardOpensHolding z s) := by
  unfold guardOpensHolding
  repeat' split
  all_goals repeat' first
    | exact Keeps.refl _ _
    | refine Keeps.comp (raiseHold_keeps ..) rfl ?_
    | refine Keeps.comp (replan_keeps ..) rfl ?_

theorem guardOpensRunning_keeps (z : Zone) (s : State) :
    Keeps [.job, .plan, .jet, .pump] s (guardOpensRunning z s) := by
  unfold guardOpensRunning
  repeat' split
  all_goals repeat' first
    | exact Keeps.refl _ _
    | refine Keeps.comp (raiseHold_keeps ..) rfl ?_
    | refine Keeps.comp (replan_keeps ..) rfl ?_

theorem guardOpens_keeps (z : Zone) (s : State) :
    Keeps [.job, .plan, .jet, .pump, .zone, .lines] s (guardOpens z s) := by
  unfold guardOpens
  dsimp only
  repeat' split
  all_goals repeat' first
    | exact Keeps.refl _ _
    | refine Keeps.comp (deriveClosed_keeps ..) rfl ?_
    | refine Keeps.comp (planCore_keeps ..) rfl ?_
    | refine Keeps.comp (guardOpensHolding_keeps ..) rfl ?_
    | refine Keeps.comp (guardOpensRunning_keeps ..) rfl ?_
    | refine Keeps.comp (setLines_keeps ..) rfl ?_

theorem guardCloses_keeps (z : Zone) (s : State) :
    Keeps [.job, .plan, .axis, .jet, .pump, .zone, .wear, .lines] s (guardCloses z s) := by
  unfold guardCloses
  dsimp only
  repeat' split
  all_goals repeat' first
    | exact Keeps.refl _ _
    | refine Keeps.comp (deriveClosed_keeps ..) rfl ?_
    | refine Keeps.comp (planCore_keeps ..) rfl ?_
    | refine Keeps.comp (replan_keeps ..) rfl ?_
    | refine Keeps.comp (proceed_keeps ..) rfl ?_
    | refine Keeps.comp (setLines_keeps ..) rfl ?_

end Sys2Proof.Machine
end

