-- ==== Sys2Proof/Tests/Slice0.lean ====
section
/-! SUPPORT. Tests/Slice0.lean: the model's own tests: ill-formed terms that WellFormed refuses, one field too wide each;
single steps against the manual's worked examples; and for every statement with hypotheses a theorem `witness_…` that
shows a concrete state and operands which meet them together, clause by clause. -/

namespace Sys2Proof.Tests

open Sys2Proof Sys2Proof.Machine

set_option Elab.async false

/-! ## Material of the tests -/

/-- The Configure record of Section 1.10, with the figures of Sections 5.13 and 7.10. -/
def cfgW : ConfigRec :=
  { xMin := 0, xMax := 3200000, yMin := 0, yMax := 1600000, homeX := 20000, homeY := 20000, zoneCount := 2,
    split := 1600000, traverseSpeed := 12000, aCut := 20, aTraverse := 800, aEmergency := 2000, closeAhead := 500,
    rMin := 500, ceiling := 400, tolerance := 10, standbyPressure := 50, startTimeout := 5000, rampTimeout := 5000,
    standbyDelay := 60000, offDelay := 60000, dipTime := 100, settleTime := 500, abrasiveLead := 1000,
    abrasiveWindow := 2000, valveTimeout := 200, zTimeout := 1000, homingTimeout := 60000, warnLimit := 500,
    faultLimit := 1000, excursionThreshold := 100, overlap := 5000, backtrackLimit := 50000 }

/-- The quartz of Table 3-6, as sent. -/
def quartz : MaterialReq :=
  { slot := 0, q1 := 1100, q2 := 760, q3 := 420, q4 := 260, q5 := 170, pPierce := 120, pCut := 380, dwell := 1500,
    method := 1, creepSpeed := 200, rate := 350, knee := 40000, arcFloor := 30, cMin := 25 }

/-- The nozzle of Section 1.10, as sent. -/
def nozzleW : NozzleReq := { k0 := 1000, growth := 8, kMax := 2000, compare := 0, used := 1530 }

/-- The sink of Section 4.6, as sent. -/
def sink : TemplateReq :=
  { slot := 0, width := 760000, depth := 440000, radius := 15000, leadIn := 30000, bridge := 20000, direction := 1,
    quality := 3, material := 0, method := 0 }

/-- The Place of Section 4.6. -/
def placeW : PlaceReq :=
  { seq := 0, template := 0, centre := ⟨800000, 800000⟩, turns := 0, slotOverride := none, report := true,
    tag := some 501 }

/-- The part configured and in IDLE, referenced, with the definitions of Section 1.10 in every slot and the head at rest
at the bed's corner. -/
def idleW : State :=
  { State.reset with
    job := { State.reset.job with state := .idle, referenced := true }
    config := some cfgW
    tables := {
      materials := Vector.replicate 8 (some (materialRecOf quartz))
      templates := Vector.replicate 16 (some (templateRecOf sink))
      nozzle := some (nozzleRecOf nozzleW) }
    zone := { State.reset.zone with lampA := .ready, lampB := .ready }
    wear := { State.reset.wear with minutes := 1530, kerf := 1204 } }

/-- `s` in a controller state, with what the Job Controller holds there. -/
def inState (st : CtrlState) (sub : Option Substate) (s : State) : State :=
  { s with job := { s.job with
      state := st, sub := sub
      hold := if st = .hold then some { reason := .host, zone := none } else none
      fault := if st = .fault ∨ st = .trip then { kind := some .zTimeout, detail := 1, secondary := 0 }
        else s.job.fault } }

/-- `s` with entries in its queue, counted, and its plan made anew. -/
def queued (es : List QueueEntry) (s : State) : State :=
  planCore { s with queue := { s.queue with
    entries := es
    uses := Vector.ofFn (fun k : Fin 8 => es.countP (fun e => e.slot == some k.val)) } }

/-- A cutting LINE 100,000 µm long from the bed's corner. -/
def lineW : QueueEntry :=
  { seq := 7, pidx := none, kind := .line, shape := some (straightShape ⟨0, 0⟩ ⟨100000, 0⟩), slot := some 0
    quality := some 3, opens := true, method := some .stationary, sent := some none, report := true, tag := some 501 }

/-- A TRAVERSE over the same ground. -/
def traverseW : QueueEntry :=
  { lineW with kind := .traverse, slot := none, quality := none, opens := false, method := none, sent := none }

/-- An END. -/
def endW : QueueEntry := { traverseW with kind := .segEnd, shape := none }

/-- RUN/MOVING on the LINE, 10,000 µm along it with the jet open, at 420 mm/min. -/
def movingW : State :=
  let s := inState .run (some .moving) idleW
  queued [lineW] { s with
    queue := { s.queue with progress := 10000, tailCut := true, tailPos := some ⟨100000, 0⟩ }
    axis := { s.axis with pathPos := 600000, speed := 420, setPoint := ⟨10000, 0⟩, actual := ⟨10000, 0⟩, zCmd := .cut }
    lines := { s.lines with zReached := some .cut, valveClosed := false, pumpRunning := true, reading := 380 }
    jet := { s.jet with
      state := .opened, rate := 350, contour := some { start := 0, method := some .stationary }, armed := true
      window := some 2000, lastPulse := some 9000 }
    pump := { s.pump with
      state := .steady, target := { level := .cut, pressure := 380 }, current := .cut, code := 76, valveOpen := true } }

/-- RUN/PIERCING at the LINE's start with a STATIONARY pierce in a jet state and a stage timer. -/
def piercingW (j : JetState) (t : Option StageTimer) : State :=
  let s := inState .run (some .piercing) idleW
  queued [lineW] { s with
    axis := { s.axis with zCmd := .pierce }
    lines := { s.lines with zReached := some .pierce, pumpRunning := true, reading := 120 }
    jet := { s.jet with
      state := j, rate := 350
      seq := some {
        kind := .pierce, method := some .stationary, entry := (7, none), pPierce := 120, pCut := 380, dwell := 1500
        creepSpeed := 200
        rate := 350, timer := t } }
    pump := { s.pump with
      state := .steady, target := { level := .pierce, pressure := 120 }, current := .pierce, code := 24
      inSequence := true } }

/-- HOLD/HELD with a reason, the head standing 10,000 µm along the LINE. -/
def heldW (r : HoldReason) : State :=
  let s := inState .hold (some .held) movingW
  planCore { s with
    job := { s.job with hold := some { reason := r, zone := none } }
    axis := { s.axis with speed := 0 }
    jet := { s.jet with state := .closed, rate := 0, armed := false, window := none }
    lines := { s.lines with valveClosed := true } }

/-- IDLE with the pump in a state at a code. -/
def pumpW (st : PumpState) (code : Nat) : State :=
  { idleW with pump := { idleW.pump with
      state := st, target := { level := .cut, pressure := 380 }, current := .cut, code := code
      startTimer := if st = .starting then some 5000 else none
      rampTimer := if st = .ramping then some 5000 else none } }

/-- The state a command leaves; every command answers one. -/
def after (c : Instr) (s : State) : State :=
  match exec c s with
  | .next t => t
  | .fault _ => s
  | .refused _ => s

/-- The reply a command adds to the list. -/
def replyTo (c : Instr) (s : State) : Option (ResultCode × BitVec 16) :=
  (after c s).link.replies.getLast?.map (fun r => (r.code, r.detail))

/-- `s` with a zone's guard OPEN and the zone closed to the head. -/
def closedW (z : Zone) (s : State) : State :=
  match z with
  | .a => { s with lines := { s.lines with guardA := true }, zone := { s.zone with closedA := true } }
  | .b => { s with lines := { s.lines with guardB := true }, zone := { s.zone with closedB := true } }

/-- What holds of zone A and of zone B holds of every zone. -/
theorem forall_zone {p : Zone → Prop} : (∀ z, p z) ↔ p .a ∧ p .b := by
  constructor
  · intro h
    exact ⟨h .a, h .b⟩
  · rintro ⟨ha, hb⟩ (_ | _)
    · exact ha
    · exact hb

/-- What fails one micrometre sooner fails at every shorter distance. -/
theorem shorter_fails {need a L M : Nat} (h : need ≤ 72 * a * M / 10) (g : 72 * a * (L - 1) / 10 < need) : L ≤ M := by
  by_contra hlt
  have h1 : 72 * a * M ≤ 72 * a * (L - 1) := Nat.mul_le_mul_left _ (by omega)
  have h2 : 72 * a * M / 10 ≤ 72 * a * (L - 1) / 10 := Nat.div_le_div_right h1
  omega

/-- A distance that suffices, where one micrometre less does not, is the stopping distance. -/
theorem stops_within {v a L : Nat} (h : v * v ≤ 72 * a * L / 10) (g : 72 * a * (L - 1) / 10 < v * v) :
    IsStoppingDistance v a L := ⟨h, fun _ k => shorter_fails k g⟩

/-- The same of the distance to slow. -/
theorem slows_within {v w a L : Nat} (h : v * v - w * w ≤ 72 * a * L / 10)
    (g : 72 * a * (L - 1) / 10 < v * v - w * w) : IsSlowingDistance v w a L := ⟨h, fun _ k => shorter_fails k g⟩

/-- The stopping distances from 420 mm/min at a_cut, a_traverse and a_emergency, and the distance to slow from 420 to
210 at a_cut. -/
theorem distances_from_420 :
    IsStoppingDistance 420 20 1225 ∧ IsStoppingDistance 420 800 31 ∧ IsStoppingDistance 420 2000 13
    ∧ IsSlowingDistance 420 210 20 919 :=
  ⟨stops_within (by decide) (by decide), stops_within (by decide) (by decide), stops_within (by decide) (by decide),
    slows_within (by decide) (by decide)⟩

/-- `NoZeroCut` by a test of the first leg. -/
theorem noZeroCut_of {s : State} (h : s.plan.legs.head?.all (fun l => !l.cutting || decide (0 < l.len)) = true) :
    NoZeroCut s := by
  intro l hl hc
  simpa [hl, hc] using h

/-! ## WellFormed refuses a field that does not fit -/

theorem test_illFormed_signed : ({ cfgW with xMin := -2147483649 } : ConfigRec).wellFormed = false := by decide
theorem test_illFormed_unsigned : ({ cfgW with zoneCount := 256 } : ConfigRec).wellFormed = false := by decide
theorem test_illFormed_configure : (Instr.configure 1 { cfgW with backtrackLimit := 4294967296 }).wellFormed = false := by
  decide
theorem test_illFormed_material : (Instr.material 1 { quartz with knee := 4294967296 }).wellFormed = false := by decide
theorem test_illFormed_nozzle : (Instr.nozzle 1 { nozzleW with growth := 256 }).wellFormed = false := by decide
theorem test_illFormed_template : (Instr.template 1 { sink with bridge := 65536 }).wellFormed = false := by decide
/-- An END record. -/
def endReq : SegmentReq :=
  { seq := 0, kind := 4, stop := ⟨0, 0⟩, centre := ⟨0, 0⟩, slot := 0, quality := 0, method := none, report := true,
    tag := some 9 }
theorem test_illFormed_segment : (Instr.segment 1 { endReq with kind := 256 }).wellFormed = false := by decide
theorem test_illFormed_segment_point : (Instr.segment 1 { endReq with stop := ⟨2147483648, 0⟩ }).wellFormed = false := by
  decide
theorem test_illFormed_segment_method : (Instr.segment 1 { endReq with method := some 256 }).wellFormed = false := by
  decide
theorem test_illFormed_place : (Instr.place 1 { placeW with turns := 256 }).wellFormed = false := by decide
theorem test_illFormed_place_override : (Instr.place 1 { placeW with slotOverride := some 256 }).wellFormed = false := by
  decide
theorem test_illFormed_pressure : (Instr.pressure 1 0 256).wellFormed = false := by decide
theorem test_illFormed_override : (Instr.override 1 65536).wellFormed = false := by decide
theorem test_illFormed_period : (Instr.interpolationPeriod 0 2147483648 false false).wellFormed = false := by decide
theorem test_illFormed_reading : (Instr.transducerReading 65536).wellFormed = false := by decide
theorem test_wellFormed_definitions :
    cfgW.wellFormed = true ∧ quartz.wellFormed = true ∧ nozzleW.wellFormed = true ∧ sink.wellFormed = true := by decide

/-! ## Single steps and figures of the manual -/

/-- Section 1.10, rows 2, 3 and 7: WRONG_STATE before Configure, IDLE after it, NOT_REFERENCED before a reference run.
-/
theorem test_segment_unconfigured : (replyTo (.segment 1 endReq) State.reset).map Prod.fst = some .wrongState := by
  decide +kernel
theorem test_configure_brings_idle :
    (after (.configure 1 cfgW) State.reset).job.state = .idle
    ∧ (after (.configure 1 cfgW) State.reset).zone.lampB = .ready := by
  decide +kernel
theorem test_run_not_referenced :
    (replyTo (.run 1) { idleW with job := { idleW.job with referenced := false } }).map Prod.fst
      = some .notReferenced := by
  decide +kernel

/-- Section 3.4, the note to R57: details 1,204, 1,000 and 2,000. -/
theorem test_nozzle_kerf : replyTo (.nozzle 1 nozzleW) idleW = some (.ok, 1204#16) := by decide +kernel
theorem test_nozzle_cap :
    kerfOf (nozzleRecOf nozzleW) 0 = 1000 ∧ kerfOf (nozzleRecOf nozzleW) 15000 = 2000 := by
  decide

/-- Table 4-4: the compensation of the sink at a kerf of 1,204. -/
theorem test_place_compensation :
    (let c := compensate (templateRecOf sink) 1204 500
     c.a = 379398 ∧ c.b = 219398 ∧ c.radius = 14398 ∧ c.leadIn = 30000 ∧ c.bridge = 20000 ∧ c.enlarged = false) := by
  decide

/-- Tables 4-5 and 4-6: eleven entries, the corner 22,616 µm long, the tail at (820,000, 1,019,398), use count 11. -/
theorem test_place_entries :
    (let t := after (.place 1 placeW) idleW
     t.queue.entries.length = 11 ∧ t.queue.uses[0] = 11 ∧ t.queue.tailPos = some ⟨820000, 1019398⟩
     ∧ ((t.queue.entries[3]?).bind QueueEntry.shape).map Shape.length = some 22616
     ∧ replyTo (.place 1 placeW) idleW = some (.ok, 11#16)) := by
  decide +kernel

/-- Section 5.13: the stopping distance from 420 is 1,225 µm, from 307 it is 655 µm, the arc limit 151 and the lead-in
junction 126. -/
theorem test_planner_figures :
    stopDist 420 20 = 1225 ∧ stopDist 307 20 = 655 ∧ bound 151 20 1066 = 419
    ∧ cutLimit (materialRecOf quartz) 100 3 (some { centre := ⟨0, 0⟩, radius := 14398, sweep := 0, ccw := true }) = 151
    ∧ 420 * cornerFactor 25 900 / 100 = 126 := by
  decide +kernel

/-- R1, R105: half way between two micrometres the coordinate is rounded away from zero: 199,499.5 is 199,500. -/
theorem test_line_rounds_half_away :
    pointAt (straightShape ⟨200000, 200000⟩ ⟨198999, 198999⟩) 708 = ⟨199500, 199500⟩ := by
  decide +kernel

/-- A period at 420 mm/min advances the set-point 7 µm (Section 6.2.1). -/
theorem test_period_advances :
    (after (.interpolationPeriod 10000 0 false false) movingW).axis.setPoint = ⟨10007, 0⟩
    ∧ (after (.interpolationPeriod 10000 0 false false) movingW).queue.progress = 10007 := by
  decide +kernel

/-- Section 1.10, the two last rows: a Run at the pierce point's start wakes the pump from OFF in RUN/PIERCING. -/
theorem test_run_pierces :
    (let t := after (.run 1) (queued [lineW] idleW)
     t.job.sub = some .piercing ∧ t.pump.state = .starting ∧ t.axis.zCmd = .pierce) := by
  decide +kernel

/-- R14: a Hold in DWELL is deferred. -/
theorem test_hold_deferred :
    (after (.hold 1) (piercingW .dwell (some (.dwell 900)))).job.deferred = true := by
  decide +kernel

/-- `movingW` with a stop of a kind `d` µm ahead. -/
def stopAheadW (k : StopKind) (d : Int) : State :=
  { movingW with plan := { movingW.plan with stops := [
      { kind := k, pos := 10000 + d, decel := 20, committed := false, zone := none, inside := true }] } }

/-- R95, R101: a CREEP stop nearer than the stopping distance gives the hold stop and the ABORT stop their position. -/
theorem test_hold_at_creep_stop :
    (after (.hold 1) (stopAheadW .creep 100)).plan.holdStop.map Stop.pos = some 10100 := by
  decide +kernel
theorem test_stop_at_creep_stop :
    (after (.stop 1) (stopAheadW .creep 10)).plan.stops.map Stop.pos = [10010] := by
  decide +kernel

/-- R117: a Stop in HOMING with the jet CLOSING leaves the head where it is, with the queued path not begun. -/
theorem test_stop_homing_keeps_still :
    (let s := queued [lineW] (inState .homing none idleW)
     let t := after (.stop 1) { s with jet := { s.jet with state := .closing } }
     let u := after (.interpolationPeriod 0 0 false false) t
     u.job.state = .aborting ∧ u.axis.setPoint = ⟨0, 0⟩ ∧ u.axis.pathPos = 0) := by
  decide +kernel

/-- R105: a TRAVERSE of length 0 passed in HOLD, 1 µm before the hold stop, retires in the period in which it is begun.
-/
theorem test_period_passes_zero_traverse :
    (let s := inState .hold (some .stopping) idleW
     let s := queued [{ traverseW with shape := some (straightShape ⟨0, 0⟩ ⟨0, 0⟩) }, traverseW] s
     let s := { s with
       axis := { s.axis with zCmd := .clear, zConfirmed := true }
       plan := { s.plan with holdStop := some {
         kind := .hold, pos := 1, decel := 800, committed := true, zone := none, inside := false } } }
     (after (.interpolationPeriod 0 0 false false) s).queue.entries = [traverseW]) := by
  decide +kernel

/-- An ARC that opens a contour with a MOVING pierce, whose end lies 3 µm out on the radius of its start: length 0. -/
def zeroArcW : QueueEntry :=
  { lineW with kind := .arcCcw, shape := some (arcShape true ⟨10000, 0⟩ ⟨0, 0⟩ ⟨10003, 0⟩), method := some .moving }

/-- RUN/PIERCING at the start of a first entry with a MOVING pierce, in a jet state with a stage timer. -/
def creepingW (j : JetState) (t : Option StageTimer) (es : List QueueEntry) : State :=
  let s := piercingW j t
  queued es { s with
    axis := { s.axis with setPoint := ⟨10000, 0⟩, actual := ⟨10000, 0⟩ }
    jet := { s.jet with seq := s.jet.seq.map (fun q => { q with method := some .moving }) } }

/-- R91, R105, R126: the creep of a MOVING pierce on an ARC of length 0 ends at the END stop at the ARC's end, where the
head stands; the next period retires the ARC and the jet enters RAMPING. -/
theorem test_zero_arc_creep_ends_at_end :
    (let t := after .leadTimerExpiry (creepingW .feeding (some (.lead 0)) [zeroArcW, endW])
     let u := after (.interpolationPeriod 10003 0 false false) t
     t.jet.state = .dwell ∧ t.plan.creep.map Creep.stop = some 0
     ∧ u.jet.state = .ramping ∧ u.queue.entries = [endW] ∧ u.axis.setPoint = ⟨10003, 0⟩) := by
  decide +kernel

/-- R97: a TRAVERSE of length 0 before a ZONE stop is passed, and the head waits at the stop before the next. -/
theorem test_zone_stop_behind_zero_traverse :
    (let s := inState .run (some .moving) (closedW .b idleW)
     let far : QueueEntry := { traverseW with shape := some (straightShape ⟨0, 0⟩ ⟨1700000, 0⟩) }
     let t := after (.interpolationPeriod 0 0 false false)
       (queued [{ traverseW with shape := some (straightShape ⟨0, 0⟩ ⟨0, 0⟩) }, far] s)
     t.job.sub = some .zoneWait ∧ t.queue.entries = [far]) := by
  decide +kernel

/-- Table 10-2: the minute event at 1,537 minutes makes the kerf 1,205. -/
theorem test_minute_kerf :
    (let s := { idleW with wear := { idleW.wear with minutes := 1537, seconds := 59, residue := 999, timing := true } }
     (after .minuteEvent s).wear.kerf = 1205 ∧ (after .minuteEvent s).wear.seconds = 0) := by
  decide +kernel

/-- A dip below 70 MPa at code 16 with tolerance 10 keeps the lowest reading (R149). -/
theorem test_reading_dip :
    (let s := { pumpW .steady 16 with pump := { (pumpW .steady 16).pump with valveOpen := true } }
     ((after (.transducerReading 69) s).pump.band.map Band.lowest = some 69)
     ∧ (after (.transducerReading 70) s).pump.band = none) := by
  decide +kernel

/-- Trip inputs (R9, R10): a trip in RUN flushes the queue; in TRIP a second one only counts. -/
theorem test_trip_flushes :
    (after (.tripInputActive .estop) movingW).job.state = .trip
    ∧ (after (.tripInputActive .estop) movingW).queue.entries = []
    ∧ (after (.tripInputActive .estop) (after (.tripInputActive .catcher) movingW)).job.fault
        = { kind := some .catcher, detail := 0, secondary := 1 } := by
  decide +kernel

/-- R116: a return of 1 µm ends exactly at the home coordinate, though R103 gives it no speed. -/
theorem test_homing_last_micrometre :
    (let h : AxisHoming := { phase := .returningBack, run := some {
       start := 19999, dir := 1, pos60 := 0, speed := 0, len := some 1, v0 := 0, vmax := 1000, acc := 800 } }
     (homeAxis 800 20000 19999 19999 false h).setPoint = 20000) := by
  decide +kernel

/-- R154: a new tolerance applies from the next reading; until then the old one judges. -/
theorem test_new_tolerance_from_next_reading :
    (let t := after (.configure 1 { cfgW with tolerance := 5 }) (pumpW .steady 76)
     t.pump.formerTolerance = some 10 ∧ (after (.transducerReading 388) t).pump.formerTolerance = none) := by
  decide +kernel

/-- The bytes of a Query frame with tag 5 complete the request, whose reply the idle transmitter then begins (R172,
R173). -/
theorem test_query_frame :
    (match feed (frameBytes 0x0F 5 []) { idleW with link := { idleW.link with tx := none } } with
     | .next t => (match t.link.tx with
       | some (.reply r) => decide (r.tag = 5 ∧ r.code = .ok)
       | _ => false)
     | _ => false) = true := by
  decide +kernel

/-- The table gives no row bits, so no word spells a command. -/
theorem test_no_word : decodeTableWord 8 1 = none ∧ State.reset.withFetchWord 8 1 = State.reset := ⟨rfl, rfl⟩

/-! ## Witnesses: the queue of commands, the resets and what every step keeps -/

/-- `idleW` with the jet-on time running at `residue` ms and `seconds`. -/
def timingW (residue seconds : Nat) : State :=
  { idleW with wear := { idleW.wear with timing := true, residue := residue, seconds := seconds } }

/-- A command waiting; none waiting, with the Z timer and the start timer run out, the Z timer being the first; no timer
run out, with the valve read as closed, and as open within a second, at its end, and at a minute's. -/
theorem witness_StepRunsFrontCommand :
    ({ idleW with pending := [.minuteEvent, .run 1] } : State).pending = [.minuteEvent, .run 1]
    ∧ (let s : State := { idleW with
         axis := { idleW.axis with zTimer := some 0 }, pump := { idleW.pump with startTimer := some 0 } }
       s.pending = [] ∧ (ownTimers s)[2]? = some (some 0, .zTimeout)
       ∧ (∀ j, j < 2 → ((ownTimers s)[j]?).map Prod.fst ≠ some (some 0)))
    ∧ idleW.pending = [] ∧ (∀ p ∈ ownTimers idleW, p.1 ≠ some 0) ∧ idleW.wear.timing = false
    ∧ (∀ r q, (timingW r q).pending = [] ∧ (∀ p ∈ ownTimers (timingW r q), p.1 ≠ some 0)
        ∧ (timingW r q).wear.timing = true ∧ (timingW r q).tables.nozzle = some (nozzleRecOf nozzleW)
        ∧ (timingW r q).wear.minutes < 999999)
    ∧ (timingW 998 0).wear.residue + 1 < 1000
    ∧ (1000 ≤ (timingW 999 58).wear.residue + 1 ∧ (timingW 999 58).wear.seconds + 1 < 60)
    ∧ (1000 ≤ (timingW 999 59).wear.residue + 1 ∧ 60 ≤ (timingW 999 59).wear.seconds + 1) := by
  refine ⟨rfl, by decide +kernel, rfl, by decide +kernel, rfl, fun r q => ⟨rfl, ?_, rfl, rfl, ?_⟩, by decide +kernel⟩
  · intro p hp
    exact (show ∀ p ∈ ownTimers idleW, p.1 ≠ some 0 by decide +kernel) p hp
  · show 1530 < 999999
    decide

/-- Both clauses: no trip input active, and all three active. -/
theorem witness_PowerOnResetClearsThePart :
    NoTrip movingW.lines
    ∧ ¬ NoTrip { movingW.lines with estop := true, overpressure := true, catcher := true } := by
  simp only [NoTrip]; decide +kernel

/-- The link of `idleW`, with 16 replies waiting behind a record being sent and the framer in HEADER. -/
def fullLink : Link :=
  { idleW.link with
    phase := .header, held := [96#8, 0#8, 15#8], gap := some 5, errors := 65535
    replies := List.replicate 16
      { tag := 1, kind := 15, code := .ok, detail := 0, state := .idle, sub := none, free := 256, expected := 0
        deferred := false, body := .none }
    reports := [{ report := .hold none none, superseded := 255 }] }

theorem witness_LinkBoundsKept :
    LinkSound fullLink ∧ ∃ t, step { idleW with link := fullLink, pending := [.query 1] } = .next t := by
  refine ⟨?_, _, rfl⟩
  constructor
  case framer => simp only [FramerSound, fullLink]; decide
  case busy => simp [TransmitterBusy, fullLink, idleW, State.reset]
  all_goals decide +kernel

theorem witness_QueueBoundsAndUseCountsKept : QueueSound movingW ∧ ∃ t, step movingW = .next t := by
  exact ⟨⟨by decide, by decide, by decide +kernel⟩, _, rfl⟩

theorem witness_WearCountKept : WearSound idleW ∧ ∃ t, step { idleW with pending := [.minuteEvent] } = .next t := by
  refine ⟨?_, _, rfl⟩
  constructor <;> simp [idleW, nozzleRecOf, nozzleW, State.reset]

theorem idleW_jobSound : JobSound idleW := by
  constructor <;> decide +kernel

theorem witness_PumpDemandKept : JobSound idleW ∧ PumpSound idleW ∧ ∃ t, step idleW = .next t := by
  refine ⟨idleW_jobSound, ?_, _, rfl⟩
  constructor <;> decide +kernel

theorem witness_LampsAndClosedZonesKept :
    LampsSound idleW ∧ ClosedSound idleW ∧ ∃ t, step { idleW with pending := [.guardOpen .b] } = .next t := by
  refine ⟨⟨?_, ?_⟩, ⟨?_, ?_⟩, _, rfl⟩
  · simp [LampRule, idleW, State.reset, Lines.guardOpen, Lines.atRest, zoneInUse]
  · simp [LampRule, idleW, State.reset, Lines.guardOpen, Lines.atRest, zoneInUse, State.cfg, cfgW]
  · simp [idleW, State.reset, Lines.atRest]
  · simp [idleW, State.reset, Lines.atRest]

theorem witness_ControllerRecordsKept :
    JobSound idleW ∧ ∃ t, step { idleW with pending := [.configure 1 cfgW] } = .next t :=
  ⟨idleW_jobSound, _, rfl⟩

/-- A part in TRIP. -/
def tripW : State := inState .trip none { idleW with zone := { idleW.zone with lampA := .off, lampB := .off } }

theorem witness_TripIsLeftOnlyByReset :
    JobSound tripW ∧ tripW.job.state = .trip ∧ (∀ tag, Instr.clear 1 ≠ .restart tag)
    ∧ Instr.clear 1 ≠ .powerOnReset ∧ (∀ b, Instr.clear 1 ≠ .receivedByte b) ∧ ∃ t, exec (.clear 1) tripW = .next t := by
  refine ⟨?_, rfl, by simp, by simp, by simp, _, rfl⟩
  constructor <;> decide +kernel

theorem witness_DefinitionsChangeOnlyByTheirRequests :
    (∀ b, Instr.run 1 ≠ .receivedByte b) ∧ Instr.run 1 ≠ .powerOnReset ∧ (∃ t, exec (.run 1) idleW = .next t)
    ∧ (∀ tag r, Instr.run 1 ≠ .material tag r) ∧ (∀ tag r, Instr.run 1 ≠ .nozzle tag r)
    ∧ (∀ tag r, Instr.run 1 ≠ .template tag r) ∧ (∀ tag r, Instr.run 1 ≠ .configure tag r) :=
  ⟨by simp, by simp, ⟨_, rfl⟩, by simp, by simp, by simp, by simp⟩

/-! ## Witnesses: frames -/

/-- The widest values of the fields of three records. -/
theorem witness_PayloadReadsBack :
    (Request.override 65535).wellFormed = true
    ∧ (Request.configure { cfgW with xMin := -2147483648, backtrackLimit := 4294967295 }).wellFormed = true
    ∧ (Request.segment { endReq with stop := ⟨2147483647, -2147483648⟩, method := some 255, tag := none }).wellFormed
      = true := by
  decide

theorem witness_FrameIsItsCommand :
    (Request.nozzle nozzleW).wellFormed = true ∧ idleW.link.phase = .hunt ∧ idleW.link.held = []
    ∧ idleW.link.gap = none ∧ TransmitterBusy idleW.link := by
  refine ⟨by decide, rfl, rfl, rfl, ?_⟩
  simp [TransmitterBusy, idleW, State.reset]

/-- `idleW` with its framer in a phase. -/
def framerW (p : Phase) (held : List Byte) : State :=
  { idleW with link := { idleW.link with phase := p, held := held, gap := if p = .hunt then none else some 5 } }

/-- The framer holds `h` and the low byte of its CRC, and `crcHigh h` completes the frame. -/
def crcHeld (h : List Byte) : List Byte := h ++ [BitVec.ofNat 8 ((crc h).toNat % 256)]

def crcHigh (h : List Byte) : Byte := BitVec.ofNat 8 ((crc h).toNat / 256)

/-- `crcHigh h` completes the frame held in CHECK, and its CRC matches. -/
def Completes (h : List Byte) : Prop :=
  (framerW .check (crcHeld h)).link.phase = .check
  ∧ (crcHeld h ++ [crcHigh h]).length = 6 + leNat ((crcHeld h ++ [crcHigh h]).take 2)
  ∧ leNat ((crcHeld h ++ [crcHigh h]).drop (4 + leNat ((crcHeld h ++ [crcHigh h]).take 2)))
      = (crc ((crcHeld h ++ [crcHigh h]).take (4 + leNat ((crcHeld h ++ [crcHigh h]).take 2)))).toNat

/-- Every phase: 3 bytes held in HEADER, none yet and the last but one in CHECK, with a CRC of zeros that differs. With
a CRC that matches: a kind of 17, a Query with a payload byte, and 16 replies waiting. -/
theorem witness_FramerFollowsItsPhases :
    (framerW .hunt []).link.phase = .hunt ∧ (framerW .hunt []).link.gap = none
    ∧ (framerW .sync []).link.phase = .sync ∧ (framerW .sync []).link.gap.isSome = true
    ∧ (framerW .header [0, 0, 15]).link.phase = .header ∧ (framerW .header [0, 0, 15]).link.held.length < 4
    ∧ (framerW .header [0, 0, 15]).link.gap.isSome = true
    ∧ (framerW .payload [1, 0, 15, 1]).link.phase = .payload
    ∧ (framerW .check [0, 0, 15, 1]).link.phase = .check
    ∧ (([0, 0, 15, 1] : List Byte) ++ [0#8]).length < 6 + leNat ((([0, 0, 15, 1] : List Byte) ++ [0#8]).take 2)
    ∧ (([0, 0, 15, 1, 0] : List Byte) ++ [0#8]).length = 6 + leNat ((([0, 0, 15, 1, 0] : List Byte) ++ [0#8]).take 2)
    ∧ leNat ((([0, 0, 15, 1, 0] : List Byte) ++ [0#8]).drop 4)
        ≠ (crc ((([0, 0, 15, 1, 0] : List Byte) ++ [0#8]).take 4)).toNat
    ∧ Completes [0, 0, 17, 1] ∧ requestLength 17 = none ∧ Completes [1, 0, 15, 1, 9] ∧ requestLength 15 = some 0
    ∧ idleW.link.replies.length < 16 ∧ 16 ≤ fullLink.replies.length := by
  simp only [Completes]
  decide +kernel

/-- A reply of `fullLink`. -/
def replyW : Reply :=
  { tag := 1, kind := 15, code := .ok, detail := 0, state := .idle, sub := none, free := 256, expected := 0
    deferred := false, body := .none }

/-- A report. -/
def memberW : Member := { report := .hold none none, superseded := 0 }

/-- An Announce record with `n` replies ahead of it. -/
def announceW (n : Nat) : Announce :=
  { ahead := n, kind := .warm, configured := true, tablesKept := true, wearKept := true, referenced := true
    state := .idle }

/-- `idleW` sending `x`, with what waits behind it. -/
def sendingW (x : TxRecord) (replies : List Reply) (reports : List Member) (announces : List Announce) : State :=
  { idleW with link := { idleW.link with tx := some x, replies := replies, reports := reports, announces := announces } }

/-- Each of the five cases of what waits; a report goes after a reply, and without a reply it goes after anything. -/
theorem witness_TransmitCompleteBeginsTheNextRecord :
    ((sendingW (.reply replyW) [replyW] [memberW] []).link.tx = some (.reply replyW)
      ∧ (after .transmitComplete (sendingW (.reply replyW) [replyW] [memberW] [])).link.lastClass = some .reply)
    ∧ (sendingW (.report memberW) [] [memberW] []).link.replies = []
    ∧ ((sendingW (.report memberW) [replyW] [memberW] []).link.replies = [replyW]
      ∧ (after .transmitComplete (sendingW (.report memberW) [replyW] [memberW] [])).link.lastClass ≠ some .reply)
    ∧ (sendingW (.announce (announceW 0)) [] [] []).link.announces = []
    ∧ (sendingW (.reply replyW) [replyW] [] [announceW 0]).link.announces = announceW 0 :: []
    ∧ (sendingW (.reply replyW) [replyW] [] [announceW 1]).link.announces = announceW 1 :: []
    ∧ (announceW 0).ahead = 0 ∧ (announceW 1).ahead ≠ 0 := by
  decide +kernel

/-! ## Witnesses: answers and definitions -/

theorem witness_Table13AnswersWithoutEffect :
    idleW.hasRoom = true ∧ table13 idleW .hold = some .noEffect ∧ table13 movingW (.nozzle nozzleW) = some .wrongState
    ∧ movingW.hasRoom = true ∧ table13 tripW (.place placeW) = some .wrongState ∧ tripW.hasRoom = true := by
  decide +kernel

theorem witness_FullReplyListDiscardsTheRequest :
    16 ≤ ({ idleW with link := fullLink } : State).link.replies.length := by decide

/-- The first field and the last. -/
theorem witness_ConfigureRefusedAtFirstField :
    State.reset.hasRoom = true ∧ State.reset.job.state = .unconfigured
    ∧ FirstOutOfRange (configField { cfgW with xMin := -4000001 }) 1 33 1
    ∧ idleW.hasRoom = true ∧ idleW.job.state = .idle ∧ idleW.queue.entries = []
    ∧ FirstOutOfRange (configField { cfgW with backtrackLimit := 999 }) 1 33 33 := by
  refine ⟨rfl, rfl, ⟨by decide, by decide, by simp [configField], fun m h k => by omega⟩, rfl, rfl, rfl,
    by decide, by decide, by simp [configField], fun m h k => ?_⟩
  interval_cases m <;> simp [configField, cfgW]

theorem cfgW_inRange : AllInRange (configField cfgW) 1 33 := by
  intro m h k
  interval_cases m <;> simp [configField, cfgW]

/-- Both clauses: every drive ready, and the drive of Z alone not ready. -/
theorem witness_FirstConfigureBringsIdle :
    State.reset.hasRoom = true ∧ State.reset.job.state = .unconfigured ∧ AllInRange (configField cfgW) 1 33
    ∧ DrivesReady State.reset.lines ∧ ¬ DrivesReady { State.reset.lines with readyZ := false } := by
  refine ⟨rfl, rfl, cfgW_inRange, ⟨rfl, rfl, rfl⟩, ?_⟩
  simp [DrivesReady]

/-- A pump OFF, one STEADY whose code the new ceiling keeps and one whose code it lowers, and one RAMPING in both ways.
-/
theorem witness_ConfigureReplacesTheRecordInIdle :
    (idleW.hasRoom = true ∧ idleW.job.state = .idle ∧ idleW.queue.entries = [] ∧ idleW.config = some cfgW
      ∧ idleW.pump.state = .off ∧ (pumpW .starting 0).pump.state = .starting
      ∧ (pumpW .ramping 76).pump.state = .ramping ∧ (pumpW .steady 76).pump.state = .steady
      ∧ levelCode cfgW (pumpW .steady 76).pump.target = 76 ∧ levelCode cfgW (pumpW .ramping 76).pump.target = 76
      ∧ levelCode { cfgW with ceiling := 100 } (pumpW .steady 76).pump.target ≠ 76)
    ∧ ¬ WithinTolerance cfgW.tolerance (levelCode { cfgW with ceiling := 100 } (pumpW .steady 76).pump.target)
        (pumpW .steady 76).lines.reading
    ∧ AllInRange (configField cfgW) 1 33 ∧ AllInRange (configField { cfgW with ceiling := 100 }) 1 33 := by
  refine ⟨by decide +kernel, ?_, cfgW_inRange, ?_⟩
  · simp only [WithinTolerance]
    decide +kernel
  · intro m h k
    interval_cases m <;> simp [configField, cfgW]

theorem quartz_inRange : AllInRange (materialField quartz) 2 15 := by
  intro m h k
  interval_cases m <;> simp [materialField, quartz]

/-- Slot 8; slot 0 in use; the last field out of range; and the last slot taken. -/
theorem witness_MaterialCheckedAndStored :
    (movingW.hasRoom = true ∧ movingW.job.state ≠ .unconfigured ∧ movingW.job.state ≠ .trip
      ∧ 7 < ({ quartz with slot := 8 } : MaterialReq).slot
      ∧ quartz.slot = (0 : Fin 8).val ∧ 0 < movingW.queue.uses[(0 : Fin 8)]
      ∧ ({ quartz with slot := 7, cMin := 9 } : MaterialReq).slot = (7 : Fin 8).val
      ∧ movingW.queue.uses[(7 : Fin 8)] = 0)
    ∧ FirstOutOfRange (materialField { quartz with slot := 7, cMin := 9 }) 2 15 15
    ∧ AllInRange (materialField { quartz with slot := 7 }) 2 15 := by
  refine ⟨by decide +kernel, ⟨by decide, by decide, by simp [materialField], fun m h k => ?_⟩, ?_⟩
  · interval_cases m <;> simp [materialField, quartz]
  · intro m h k
    interval_cases m <;> simp [materialField, quartz]

theorem witness_NozzleRefusedAtFirstField :
    idleW.hasRoom = true ∧ idleW.job.state = .idle
    ∧ FirstOutOfRange (nozzleField { nozzleW with k0 := 199 }) 1 5 1
    ∧ FirstOutOfRange (nozzleField { nozzleW with used := 1000000 }) 1 5 5 := by
  refine ⟨rfl, rfl, ⟨by decide, by decide, by simp [nozzleField], fun m h k => by omega⟩,
    by decide, by decide, by simp [nozzleField], fun m h k => ?_⟩
  interval_cases m <;> simp [nozzleField, nozzleW]

theorem witness_NozzleAccepted :
    idleW.hasRoom = true ∧ idleW.job.state = .idle
    ∧ AllInRange (nozzleField { nozzleW with compare := 999999, used := 999999 }) 1 5 := by
  refine ⟨rfl, rfl, fun m h k => ?_⟩
  interval_cases m <;> simp [nozzleField, nozzleW]

/-- Slot 16; the last field out of range; and the last slot taken. -/
theorem witness_TemplateCheckedAndStored :
    (movingW.hasRoom = true ∧ movingW.job.state ≠ .unconfigured ∧ movingW.job.state ≠ .trip
      ∧ 15 < ({ sink with slot := 16 } : TemplateReq).slot
      ∧ ({ sink with slot := 15, method := 4 } : TemplateReq).slot ≤ 15
      ∧ ({ sink with slot := 15 } : TemplateReq).slot = (15 : Fin 16).val)
    ∧ FirstOutOfRange (templateField { sink with slot := 15, method := 4 }) 2 10 10
    ∧ AllInRange (templateField { sink with slot := 15 }) 2 10 := by
  refine ⟨by decide +kernel, ⟨by decide, by decide, by simp [templateField], fun m h k => ?_⟩, fun m h k => ?_⟩
  · interval_cases m <;> simp [templateField, sink]
  · interval_cases m <;> simp [templateField, sink]

/-! ## Witnesses: Segment and Place -/

/-- A LINE as sent, to be appended at the corner. -/
def lineReq : SegmentReq :=
  { seq := 0, kind := 1, stop := ⟨100000, 0⟩, centre := ⟨0, 0⟩, slot := 7, quality := 5, method := some 3
    report := false, tag := none }

/-- A full queue. -/
def fullQueue : State := { idleW with queue := { idleW.queue with entries := List.replicate 256 traverseW } }

/-- Each check fails where the ones before it hold: a sequence number too high; a full queue; slot 8; the first and the
last check of fields and geometry that a LINE meets. -/
theorem witness_SegmentRefusedInOrder :
    (idleW.hasRoom = true ∧ idleW.job.state = .idle ∧ fullQueue.hasRoom = true ∧ fullQueue.job.state = .idle
      ∧ ({ lineReq with seq := 1 } : SegmentReq).seq ≠ idleW.queue.expected
      ∧ lineReq.seq = fullQueue.queue.expected ∧ 256 ≤ fullQueue.queue.entries.length
      ∧ lineReq.seq = idleW.queue.expected ∧ idleW.queue.entries.length < 256
      ∧ ¬ (CuttingByte lineReq.kind →
        ∃ k : Fin 8, ({ lineReq with slot := 8 } : SegmentReq).slot = k.val ∧ idleW.tables.materials[k].isSome = true)
      ∧ (CuttingByte lineReq.kind → ∃ k : Fin 8, lineReq.slot = k.val ∧ idleW.tables.materials[k].isSome = true))
    ∧ FirstFail (segmentRules idleW { lineReq with quality := 6 }) 8
    ∧ FirstFail (segmentRules idleW { lineReq with stop := ⟨0, 0⟩ }) 3 := by
  constructor
  · simp only [CuttingByte]
    decide +kernel
  · simp [FirstFail, segmentRules, CuttingByte, lineReq, startPoint, restPosition, idleW, State.reset,
      SegQueue.empty, State.cfg, cfgW, show distance ⟨0, 0⟩ ⟨0, 0⟩ = 0 by decide +kernel]

theorem lineReq_allHold : AllHold (segmentRules idleW lineReq) := by
  simp [AllHold, segmentRules, CuttingByte, lineReq, startPoint, restPosition, idleW, State.reset,
    SegQueue.empty, State.cfg, cfgW, show distance ⟨0, 0⟩ ⟨100000, 0⟩ ≠ 0 by decide +kernel]

/-- A LINE with the last slot, and an END into a queue one short of full. -/
theorem witness_SegmentAcceptedAtRest :
    idleW.hasRoom = true ∧ idleW.job.state = .idle ∧ lineReq.seq = idleW.queue.expected
    ∧ idleW.queue.entries.length < 256
    ∧ (CuttingByte lineReq.kind → ∃ k : Fin 8, lineReq.slot = k.val ∧ idleW.tables.materials[k].isSome = true)
    ∧ AllHold (segmentRules idleW lineReq)
    ∧ (List.replicate 255 traverseW).length < 256 ∧ ¬ CuttingByte endReq.kind
    ∧ AllHold (segmentRules idleW endReq) := by
  refine ⟨rfl, rfl, rfl, by decide, ?_, lineReq_allHold, by decide +kernel, ?_, ?_⟩
  · simp only [CuttingByte]; decide +kernel
  · simp [CuttingByte, endReq]
  · simp [AllHold, segmentRules, CuttingByte, endReq]

/-- RUN/STARVED with nothing queued and the jet CLOSED. -/
def starvedW : State := inState .run (some .starved) idleW

/-- A TRAVERSE as sent. -/
def traverseReq : SegmentReq := { lineReq with kind := 0 }

theorem traverseReq_allHold (s : State) (h : s.config = some cfgW) : AllHold (segmentRules s traverseReq) := by
  simp [AllHold, segmentRules, CuttingByte, traverseReq, lineReq, State.cfg, h, cfgW]

theorem lineReq_allHold_starved : AllHold (segmentRules starvedW lineReq) := by
  simp [AllHold, segmentRules, CuttingByte, lineReq, startPoint, restPosition, starvedW, inState, idleW, State.reset,
    SegQueue.empty, State.cfg, cfgW, show distance ⟨0, 0⟩ ⟨100000, 0⟩ ≠ 0 by decide +kernel]

/-- The queued path ends 50 µm from the standing head. -/
def starvedAwayW : State := { starvedW with queue := { starvedW.queue with tailPos := some ⟨50, 0⟩ } }

theorem lineReq_allHold_away : AllHold (segmentRules starvedAwayW lineReq) := by
  simp [AllHold, segmentRules, CuttingByte, lineReq, startPoint, restPosition, starvedAwayW, starvedW, inState, idleW,
    State.reset, SegQueue.empty, State.cfg, cfgW, show distance ⟨50, 0⟩ ⟨100000, 0⟩ ≠ 0 by decide +kernel]

/-- In HOLD/HELD; in RUN/MOVING with the jet open, in DWELL, and in ZONE_WAIT before a TRAVERSE; and in RUN/STARVED a
TRAVERSE, a LINE at whose start the head stands, and one whose start lies away from it. -/
theorem witness_SegmentJoinsAMovingOrHeldJob :
    (let s := heldW .host
     s.hasRoom = true ∧ s.job.state = .hold ∧ traverseReq.seq = s.queue.expected ∧ s.queue.entries.length < 256
     ∧ s.queue.recPath = [] ∧ s.plan.approach = none ∧ s.config = some cfgW)
    ∧ (let s := movingW
       s.hasRoom = true ∧ s.job.state = .run ∧ s.job.sub = some .moving ∧ 0 < s.axis.speed ∧ BedOpen s
       ∧ traverseReq.seq = s.queue.expected ∧ s.queue.entries.length < 256 ∧ s.queue.recPath = []
       ∧ s.plan.approach = none ∧ s.config = some cfgW)
    ∧ (let s := piercingW .dwell (some (.dwell 900))
       s.job.sub = some .piercing ∧ s.jet.state ≠ .closed ∧ s.config = some cfgW)
    ∧ (let s := closedW .a (queued [traverseW] (inState .run (some .zoneWait) idleW))
       s.hasRoom = true ∧ s.job.sub = some .zoneWait ∧ s.queue.entries.head? = some traverseW
       ∧ traverseW.kind ≠ .segEnd ∧ s.config = some cfgW)
    ∧ (∀ s : State, s.config = some cfgW → AllHold (segmentRules s traverseReq)) ∧ ¬ CuttingByte traverseReq.kind
    ∧ (let s := starvedW
       s.hasRoom = true ∧ s.job.state = .run ∧ s.job.sub = some .starved ∧ s.queue.entries = [] ∧ s.queue.recPath = []
       ∧ s.jet.state = .closed ∧ Resting s ∧ s.axis.pathPos = 0 ∧ BedOpen s ∧ s.lines.zReached ≠ some .pierce
       ∧ s.axis.zCmd ≠ .pierce ∧ traverseReq.kind = 0 ∧ lineReq.kind ≠ 0 ∧ lineReq.kind ≠ 4
       ∧ startPoint s = s.axis.setPoint ∧ lineReq.seq = s.queue.expected
       ∧ (∃ k : Fin 8, lineReq.slot = k.val ∧ s.tables.materials[k].isSome = true))
    ∧ AllHold (segmentRules starvedW lineReq)
    ∧ (startPoint starvedAwayW ≠ starvedAwayW.axis.setPoint ∧ starvedAwayW.queue.tailCut = false)
    ∧ AllHold (segmentRules starvedAwayW lineReq) := by
  refine ⟨?_, ?_, ?_, ?_, traverseReq_allHold, by simp [CuttingByte, traverseReq], ?_, lineReq_allHold_starved, ?_,
    lineReq_allHold_away⟩ <;> (try simp only [BedOpen, Resting]) <;> decide +kernel

theorem witness_EndInStarvedEndsTheJob :
    starvedW.hasRoom = true ∧ starvedW.job.state = .run ∧ starvedW.job.sub = some .starved ∧ endReq.kind = 4
    ∧ endReq.seq = starvedW.queue.expected ∧ starvedW.queue.entries = [] ∧ starvedW.queue.recPath = []
    ∧ starvedW.jet.state = .closed ∧ Resting starvedW ∧ starvedW.axis.pathPos = 0 ∧ starvedW.plan.approach = none
    ∧ starvedW.queue.history.length ≤ 32 := by
  simp only [Resting]
  decide +kernel

/-- The expansion of the Place of Section 4.6 from the bed's corner. -/
def expansionW (r : PlaceReq) (s : State) : Compensation × List QueueEntry := expand s r (templateRecOf sink) s.wear.kerf

/-- `idleW` with its tables otherwise. -/
def tablesW (materials : Option MaterialRec) (templates : Option TemplateRec) (nozzle : Option NozzleRec) : State :=
  { idleW with tables := {
      materials := Vector.replicate 8 materials, templates := Vector.replicate 16 templates, nozzle := nozzle } }

theorem placeW_allHold : AllHold (placeRules idleW placeW (expansionW placeW idleW).1 (expansionW placeW idleW).2) := by
  simp only [AllHold, placeRules]
  decide +kernel

/-- Each check fails where the ones before it hold: the sequence number; slot 16, empty; material slot 8; no nozzle;
four quarter turns; an x-extent one µm past the bed; and 246 entries queued with 11 to come. -/
theorem witness_PlaceRefusedInOrder :
    (idleW.hasRoom = true ∧ idleW.job.state = .idle
      ∧ ({ placeW with seq := 1 } : PlaceReq).seq ≠ idleW.queue.expected ∧ placeW.seq = idleW.queue.expected
      ∧ idleW.template 16 = none ∧ idleW.template 0 = some (templateRecOf sink)
      ∧ idleW.material ((some 8).getD (templateRecOf sink).material) = none
      ∧ idleW.material (placeW.slotOverride.getD (templateRecOf sink).material) ≠ none
      ∧ (tablesW (some (materialRecOf quartz)) (some (templateRecOf sink)) none).tables.nozzle = none
      ∧ idleW.tables.nozzle ≠ none
      ∧ 256 < (List.replicate 246 traverseW).length + (expansionW placeW idleW).2.length)
    ∧ FirstFail (placeRules idleW { placeW with turns := 4 }
        (expansionW { placeW with turns := 4 } idleW).1 (expansionW { placeW with turns := 4 } idleW).2) 5
    ∧ FirstFail (placeRules idleW { placeW with centre := ⟨379397, 800000⟩ }
        (expansionW { placeW with centre := ⟨379397, 800000⟩ } idleW).1
        (expansionW { placeW with centre := ⟨379397, 800000⟩ } idleW).2) 3
    ∧ AllHold (placeRules idleW placeW (expansionW placeW idleW).1 (expansionW placeW idleW).2) := by
  refine ⟨by decide +kernel, ?_, ?_, placeW_allHold⟩
  · simp only [FirstFail, placeRules]
    exact .inl ⟨by decide, trivial⟩
  · simp only [FirstFail, placeRules]
    have beyond : ¬ (∀ e ∈ (expansionW { placeW with centre := ⟨379397, 800000⟩ } idleW).2, ∀ sh, e.shape = some sh →
        idleW.cfg.xMin ≤ (if sh.arc.isSome then (xExtent sh).1 else sh.stop.x)
        ∧ (if sh.arc.isSome then (xExtent sh).2 else sh.stop.x) ≤ idleW.cfg.xMax) := by
      decide +kernel
    have turns : ({ placeW with centre := ⟨379397, 800000⟩ } : PlaceReq).turns ≤ 3 := by decide
    have fits : ∀ c : Compensation, c = (expansionW { placeW with centre := ⟨379397, 800000⟩ } idleW).1 →
        c.radius ≤ c.a ∧ c.radius ≤ c.b := by
      rintro c rfl
      decide +kernel
    exact .inr ⟨turns, .inr ⟨(fits _ rfl).1, .inr ⟨(fits _ rfl).2, .inl ⟨beyond, trivial⟩⟩⟩⟩

/-- What the Place of Section 4.6 asks of a state. -/
def PlaceFits (s : State) : Prop :=
  s.hasRoom = true ∧ placeW.seq = s.queue.expected ∧ s.template placeW.template = some (templateRecOf sink)
  ∧ s.material (placeW.slotOverride.getD (templateRecOf sink).material) ≠ none ∧ s.tables.nozzle ≠ none
  ∧ expand s placeW (templateRecOf sink) s.wear.kerf = ((expansionW placeW s).1, (expansionW placeW s).2)
  ∧ AllHold (placeRules s placeW (expansionW placeW s).1 (expansionW placeW s).2)
  ∧ s.queue.entries.length + (expansionW placeW s).2.length ≤ 256

/-- ZONE_WAIT before a TRAVERSE in zone A. -/
def waitingW : State := closedW .a (queued [traverseW] (inState .run (some .zoneWait) idleW))

theorem placeFits : ∀ s ∈ [idleW, heldW .host, movingW, waitingW, starvedW], PlaceFits s := by
  simp only [PlaceFits, AllHold, placeRules]
  decide +kernel

/-- The Place of Section 4.6 in IDLE, in HOLD, in RUN/MOVING with the jet open, in ZONE_WAIT before a TRAVERSE and in
STARVED; and one whose 11 entries fill the queue to 256. -/
theorem witness_PlaceAccepted :
    (∀ s ∈ [idleW, heldW .host, movingW, waitingW, starvedW], PlaceFits s)
    ∧ idleW.job.state = .idle
    ∧ (List.replicate 245 traverseW).length + (expansionW placeW idleW).2.length ≤ 256
    ∧ (let s := heldW .host
       s.job.state = .hold ∧ s.queue.recPath = [] ∧ s.plan.approach = none)
    ∧ (let s := movingW
       s.job.state = .run ∧ s.job.sub ≠ some .starved ∧ s.jet.state ≠ .closed ∧ 0 < s.axis.speed ∧ BedOpen s
       ∧ s.queue.recPath = [] ∧ s.plan.approach = none)
    ∧ (let s := waitingW
       s.job.state = .run ∧ s.job.sub = some .zoneWait ∧ s.jet.state = .closed
       ∧ s.queue.entries.head? = some traverseW ∧ traverseW.kind ≠ .segEnd)
    ∧ (let s := starvedW
       s.job.state = .run ∧ s.job.sub = some .starved ∧ s.queue.entries = [] ∧ s.queue.recPath = []
       ∧ s.jet.state = .closed ∧ Resting s ∧ s.axis.pathPos = 0 ∧ BedOpen s) := by
  simp only [BedOpen, Resting]
  exact ⟨placeFits, by decide +kernel⟩

/-- The smallest sink at the widest kerf and the greatest r_min. -/
theorem witness_InRangeTemplatesAlwaysFit :
    AllInRange (templateField { sink with width := 20000, depth := 20000, radius := 10000, bridge := 50000 }) 2 10
    ∧ (5000 : Nat) ≤ 5000 ∧ 200 ≤ (5000 : Nat) := by
  refine ⟨fun m h k => ?_, by decide, by decide⟩
  interval_cases m <;> simp [templateField, sink]

/-! ## Witnesses: job control -/

/-- Not referenced; nothing queued; a first TRAVERSE; a first LINE away from the head; a first END; and a first TRAVERSE
and LINE in zone A, which is closed. -/
theorem witness_RunByTheFirstEntry :
    (idleW.hasRoom = true ∧ idleW.job.state = .idle
      ∧ ({ idleW with job := { idleW.job with referenced := false } } : State).job.referenced = false
      ∧ idleW.job.referenced = true ∧ idleW.queue.recPath = [] ∧ Resting idleW ∧ idleW.axis.pathPos = 0
      ∧ BedOpen idleW ∧ idleW.queue.entries = [])
    ∧ ((queued [traverseW] idleW).queue.entries = [traverseW] ∧ traverseW.kind = .traverse
      ∧ traverseW.shape = some (straightShape ⟨0, 0⟩ ⟨100000, 0⟩) ∧ idleW.jet.contour = none
      ∧ (queued [{ lineW with shape := some (straightShape ⟨1, 0⟩ ⟨100000, 0⟩) }] idleW).axis.setPoint ≠ ⟨1, 0⟩)
    ∧ (let s := queued [endW] idleW
       s.queue.entries = [endW] ∧ endW.kind = .segEnd ∧ endW.shape = none ∧ endW.slot = none
       ∧ s.jet.state = .closed ∧ Resting s ∧ BedOpen s)
    ∧ (let s := closedW .a (queued [lineW] idleW)
       s.hasRoom = true ∧ s.job.state = .idle ∧ s.job.referenced = true ∧ Resting s ∧ OnlyClosed s .a
       ∧ s.queue.entries = [lineW] ∧ lineW.kind.cutting = lineW.opens
       ∧ lineW.shape.map Shape.start = some s.axis.setPoint ∧ lineW.touches s.cfg .a = true ∧ s.jet.contour = none
       ∧ s.jet.seq = none ∧ s.jet.cutEntry = none)
    ∧ traverseW.kind.cutting = traverseW.opens ∧ traverseW.touches idleW.cfg .a = true := by
  simp only [Resting, BedOpen, OnlyClosed, forall_zone]
  decide +kernel

theorem witness_RunBeginsThePierce :
    (let s := queued [lineW] idleW
     s.hasRoom = true ∧ s.job.state = .idle ∧ s.job.referenced = true ∧ s.queue.recPath = [] ∧ Resting s
     ∧ s.axis.pathPos = 0 ∧ BedOpen s ∧ s.queue.entries = lineW :: [] ∧ lineW.kind.cutting = true ∧ lineW.opens = true
     ∧ lineW.shape = some (straightShape ⟨0, 0⟩ ⟨100000, 0⟩) ∧ s.axis.setPoint = ⟨0, 0⟩ ∧ lineW.slot = some 0
     ∧ s.material 0 = some (materialRecOf quartz) ∧ s.jet.state = .closed ∧ s.jet.contour = none
     ∧ s.axis.zCmd ≠ .pierce ∧ s.lines.zReached ≠ some .pierce) := by
  simp only [Resting, BedOpen]
  decide +kernel

/-- `movingW` 500 µm before the end of the LINE. -/
def nearEndW : State := { movingW with axis := { movingW.axis with pathPos := 60 * 99500 } }

/-- A Hold at 420 mm/min on the LINE: the stop lies 1,225 µm ahead, short of the queue's end; and 500 µm before that
end, where the QUEUE_END stop lies nearer. -/
theorem witness_HoldWhileMovingPlacesTheHoldStop :
    (movingW.hasRoom = true ∧ movingW.job.state = .run ∧ movingW.job.sub = some .moving ∧ movingW.job.hold = none
      ∧ movingW.axis.speed = 420 ∧ movingW.axis.stopRun = none ∧ movingW.axis.homing = none
      ∧ movingW.cfg.aCut = 20 ∧ 0 < movingW.cfg.aTraverse
      ∧ (∀ u ∈ movingW.plan.allStops,
          60 * u.pos < (movingW.axis.pathPos : Int) ∨ ((movingW.axis.pathPos / 60 + 1225 : Nat) : Int) ≤ u.pos))
    ∧ (let s := nearEndW
       s.axis.pathPos < 60 * 100000 ∧ s.plan.allStops.map Stop.pos = [100000]
       ∧ 100000 < ((s.axis.pathPos / 60 + 1225 : Nat) : Int))
    ∧ (∃ l, movingW.plan.legs.head? = some l ∧ l.kind = .entry ∧ l.isEnd = false ∧ movingW.axis.pathPos < 60 * l.len
        ∧ l.cutting = true)
    ∧ IsStoppingDistance 420 20 1225 := by
  refine ⟨by decide +kernel, by decide +kernel, ⟨(movingW.plan.legs.head?).getD (entryLeg movingW lineW), ?_⟩,
    distances_from_420.1⟩
  decide +kernel

/-- HOLD/STOPPING with the head standing at its hold stop, 10,000 µm along the LINE, and the jet CLOSED or still
CLOSING. -/
def stoppingW (j : JetState) : State :=
  let s := heldW .host
  { s with
    job := { s.job with sub := some .stopping }
    jet := { s.jet with state := j }
    lines := { s.lines with valveClosed := j == .closed }
    plan := { s.plan with holdStop := some {
      kind := .hold, pos := 10000, decel := 20, committed := false, zone := none, inside := true } } }

/-- `s` with its head standing at a stop at s_stop, 10,000 µm along the contour, and a recovery pending. -/
def pendingAt (u : StopKind) (pos : Int) (s : State) : State :=
  { s with
    axis := { s.axis with speed := 0 }
    jet := { s.jet with
      contour := s.jet.contour.or (some { start := 10000, method := some .stationary })
      recovery := some { isPending := true, sStop := 10000, sR := 4000, short := false } }
    plan := { s.plan with stops := [
      { kind := u, pos := pos, decel := 20, committed := false, zone := none, inside := false }] } }

/-- HOLD/STOPPING with the jet CLOSED and the head at a RESTART stop 500 µm short of its hold stop. -/
def restingShortW : State :=
  let s := stoppingW .closed
  { s with plan := { s.plan with
      holdStop := s.plan.holdStop.map (fun u => { u with pos := 10500 })
      stops := [{ kind := .restart, pos := 10000, decel := 20, committed := true, zone := none, inside := true }] } }

/-- STARVED with the jet CLOSED; PIERCING in PREPARING with the switch active; PIERCING in RAMPING; both ways from
STOPPING to HELD, the first with no recovery that ends there and with one; and STOPPING at a RESTART stop short of the
hold stop. -/
theorem witness_HoldAtStandstill :
    (starvedW.hasRoom = true ∧ starvedW.job.state = .run ∧ starvedW.job.sub = some .starved
      ∧ starvedW.jet.state = .closed ∧ Resting starvedW)
    ∧ (let s := piercingW .preparing none
       s.hasRoom = true ∧ s.job.state = .run ∧ s.job.sub = some .piercing ∧ s.jet.state = .preparing
       ∧ s.lines.valveClosed = true ∧ s.jet.seq.isSome = true)
    ∧ (let s := piercingW .ramping none
       s.hasRoom = true ∧ s.job.state = .run ∧ s.job.sub = some .piercing ∧ s.jet.state = .ramping)
    ∧ (let s := stoppingW .closing
       s.job.state = .hold ∧ s.job.sub = some .stopping ∧ s.plan.holdStop.map Stop.pos = some 10000
       ∧ 60 * 10000 = (s.axis.pathPos : Int) ∧ s.jet.state = .closing ∧ s.jet.seq = none ∧ s.axis.speed = 0)
    ∧ (let s := stoppingW .closed
       s.jet.state = .closed ∧ s.config = some cfgW ∧ s.axis.frozen = false ∧ s.axis.stopRun = none
       ∧ s.axis.homing = none ∧ s.queue.recBack = false ∧ pointHere s = ⟨10000, 0⟩
       ∧ WithinWarn cfgW ⟨10000, 0⟩ ⟨9500 + s.axis.offset.x, 0 + s.axis.offset.y⟩)
    ∧ ¬ RecoveryEndsHere (stoppingW .closing)
    ∧ RecoveryEndsHere (pendingAt .segEnd 10000 (stoppingW .closing))
    ∧ (let s := restingShortW
       s.job.state = .hold ∧ s.job.sub = some .stopping ∧ s.plan.holdStop.map Stop.pos = some 10500
       ∧ 60 * 10500 ≠ (s.axis.pathPos : Int) ∧ s.plan.stops.map Stop.pos = [10000] ∧ 60 * 10000 = (s.axis.pathPos : Int)
       ∧ (∀ v ∈ s.plan.stops, 60 * v.pos = (s.axis.pathPos : Int) → v.kind ≠ .zone ∨ v.inside = false)
       ∧ s.jet.state = .closed ∧ s.config = some cfgW ∧ s.axis.frozen = false ∧ s.axis.stopRun = none
       ∧ s.axis.homing = none ∧ s.queue.recBack = false
       ∧ WithinWarn cfgW (pointHere s) ⟨9500 + s.axis.offset.x, 0 + s.axis.offset.y⟩) := by
  have none_ends : ¬ RecoveryEndsHere (stoppingW .closing) := by
    rintro ⟨-, -, -, r, -, h, -⟩
    exact absurd h (by rw [show (stoppingW .closing).jet.recovery = none by decide +kernel]; simp)
  have ends : RecoveryEndsHere (pendingAt .segEnd 10000 (stoppingW .closing)) :=
    ⟨by decide +kernel, by decide +kernel, noZeroCut_of (by decide +kernel), { isPending := true, sStop := 10000, sR := 4000, short := false },
      { kind := .segEnd, pos := 10000, decel := 20, committed := false, zone := none, inside := false },
      by decide +kernel, rfl, by decide +kernel, by decide +kernel, by decide, by decide +kernel⟩
  simp only [none_ends, ends, Resting, WithinWarn, not_false_eq_true, true_and]
  decide +kernel

/-- HOLD/HELD for HOST with zone B recorded and nothing queued. -/
def heldEmptyW (isOpen : Bool) (es : List QueueEntry) : State :=
  let s := inState .hold (some .held) idleW
  queued es { s with
    job := { s.job with hold := some { reason := .host, zone := some .b } }
    lines := { s.lines with guardB := isOpen } }

/-- The recorded zone OPEN; CLOSED again with nothing queued, with a TRAVERSE first, and with the pierce of a contour's
opening entry abandoned; inside a contour whose pierce is complete and incomplete; before a TRAVERSE in a closed zone;
and inside a contour in a closed zone, past the entry's start and at it. -/
theorem witness_ResumeGoesOnFromStandstill :
    (let s := heldEmptyW true []
     s.hasRoom = true ∧ s.job.state = .hold ∧ s.job.sub = some .held
     ∧ s.job.hold = some { reason := .host, zone := some .b } ∧ s.lines.guardOpen .b = true)
    ∧ (let s := heldEmptyW false []
       s.job.hold = some { reason := .host, zone := some .b } ∧ s.lines.guardOpen .b = false ∧ s.queue.recPath = []
       ∧ BedOpen s ∧ s.axis.pathPos = 0 ∧ s.jet.state = .closed ∧ Resting s ∧ s.queue.entries = [])
    ∧ (let s := heldEmptyW false [traverseW]
       s.queue.entries = [traverseW] ∧ traverseW.kind = .traverse ∧ BedOpen s ∧ Resting s)
    ∧ (let s := heldEmptyW false [lineW]
       s.queue.entries = [lineW] ∧ StandsOn s lineW ∧ lineW.opens = true ∧ s.jet.contour = none ∧ BedOpen s ∧ Resting s
       ∧ s.lines.zReached ≠ some .pierce ∧ s.axis.zCmd ≠ .pierce)
    ∧ (let s := heldW .host
       s.hasRoom = true ∧ s.job.state = .hold ∧ s.job.sub = some .held
       ∧ s.job.hold = some { reason := .host, zone := none } ∧ s.queue.recPath = [] ∧ BedOpen s ∧ Resting s
       ∧ s.jet.state = .closed ∧ s.queue.entries = [lineW] ∧ lineW.kind.cutting = true ∧ StandsOn s lineW
       ∧ s.jet.contour = some { start := 0, method := some .stationary } ∧ s.jet.incomplete = false
       ∧ s.lines.zReached ≠ some .pierce ∧ s.axis.zCmd ≠ .pierce)
    ∧ (let s := closedW .a (heldEmptyW false [traverseW])
       OnlyClosed s .a ∧ traverseW.shape.map Shape.start = some s.axis.setPoint ∧ s.axis.pathPos = 0
       ∧ traverseW.touches s.cfg .a = true)
    ∧ (let s := closedW .a (heldW .host)
       OnlyClosed s .a ∧ s.queue.entries = [lineW] ∧ StandsOn s lineW ∧ s.axis.pathPos = 60 * 10000
       ∧ pointTouches s.cfg s.axis.setPoint .a = true ∧ lineW.touches s.cfg .a = true)
    ∧ (let s := { heldW .host with axis := { (heldW .host).axis with pathPos := 0, setPoint := ⟨0, 0⟩ } }
       StandsOn s lineW ∧ s.axis.pathPos = 60 * 0) := by
  simp only [BedOpen, Resting, StandsOn, OnlyClosed, forall_zone]
  refine ⟨?_, ?_, ?_, ?_, ?_, ?_⟩ <;> decide +kernel

/-- `heldW .abrasive` with the head back at the entry's start, where nothing has been cut. -/
def abrasiveAtStartW : State :=
  let s := heldW .abrasive
  { s with
    axis := { s.axis with pathPos := 0, setPoint := ⟨0, 0⟩ }
    queue := { s.queue with progress := 0 }
    jet := { s.jet with lastPulse := some 0, incomplete := true } }

/-- HOLD/HELD for ABRASIVE before what `es` begins with, or at the end of the queued path. -/
def abrasiveBeforeW (es : List QueueEntry) : State :=
  let s := heldEmptyW false es
  { s with job := { s.job with hold := some { reason := .abrasive, zone := none } } }

/-- `heldW .abrasive` inside a contour, whose first 5,000 µm the entry before cut. -/
def inContourW : State :=
  let s := heldW .abrasive
  { s with
    queue := { s.queue with
      entries := [{ lineW with opens := false }]
      history := [{
        seq := 6, pidx := none, kind := .line, shape := straightShape ⟨-5000, 0⟩ ⟨0, 0⟩, contour := some (0, 5000)
        limit := some 420, pressures := some (120, 380), rate := some 350, opens := true }] }
    jet := { s.jet with contour := some { start := 5000, method := some .stationary } } }

theorem inContourW_run : ContourRun inContourW { lineW with opens := false } inContourW.queue.history := by
  refine ⟨by decide, fun _ => ⟨[], rfl, by decide +kernel, by simp⟩⟩

theorem inContourW_joins : RunJoins 5000 inContourW.queue.history := ⟨by decide +kernel, by decide +kernel, trivial⟩

/-- Abrasive lost 1,000 µm after the last pulse at 9,000 µm, where s_r is 4,000 µm, in an open bed, in a closed zone and
beside one; inside a contour, whose entries join; at the entry's start, where s_r is s_stop; before a TRAVERSE; and at
the end of the queued path. -/
theorem witness_AbrasiveResumeBacktracks :
    (let s := heldW .abrasive
     s.hasRoom = true ∧ s.job.state = .hold ∧ s.job.sub = some .held
     ∧ s.job.hold = some { reason := .abrasive, zone := none } ∧ s.queue.recPath = [] ∧ BedOpen s ∧ Resting s
     ∧ s.queue.entries = [lineW] ∧ lineW.kind.cutting = true
     ∧ lineW.shape = some (straightShape ⟨0, 0⟩ ⟨100000, 0⟩) ∧ 0 < s.queue.progress
     ∧ s.queue.progress ≤ (straightShape ⟨0, 0⟩ ⟨100000, 0⟩).length
     ∧ s.jet.contour = some { start := 0, method := some .stationary } ∧ s.jet.lastPulse = some 9000
     ∧ s.jet.state = .closed ∧ s.entryMaterial lineW = some (materialRecOf quartz) ∧ lineW.quality = some 3
     ∧ s.cfg.overlap = 5000 ∧ s.queue.progress = 10000)
    ∧ ContourRun (heldW .abrasive) lineW [] ∧ ContourRun inContourW { lineW with opens := false } inContourW.queue.history
    ∧ RunJoins 5000 inContourW.queue.history ∧ inContourW.queue.entries = [{ lineW with opens := false }]
    ∧ inContourW.jet.contour = some { start := 5000, method := some .stationary }
    ∧ OnlyClosed (closedW .a (heldW .abrasive)) .a ∧ OnlyClosed (closedW .b (heldW .abrasive)) .b
    ∧ (let s := abrasiveAtStartW
       s.hasRoom = true ∧ s.job.hold = some { reason := .abrasive, zone := none } ∧ s.queue.entries = [lineW]
       ∧ s.queue.progress = 0 ∧ s.jet.lastPulse = some 0 ∧ s.jet.contour.isSome = true
       ∧ BedOpen s ∧ Resting s ∧ StandsOn s lineW ∧ s.lines.zReached ≠ some .pierce ∧ s.axis.zCmd ≠ .pierce)
    ∧ (let s := abrasiveBeforeW [traverseW]
       s.hasRoom = true ∧ s.job.state = .hold ∧ s.job.sub = some .held ∧ s.queue.recPath = [] ∧ s.jet.state = .closed
       ∧ BedOpen s ∧ Resting s ∧ s.queue.entries = [traverseW] ∧ traverseW.kind = .traverse)
    ∧ (abrasiveBeforeW []).queue.entries = [] ∧ (abrasiveBeforeW []).axis.pathPos = 0 := by
  have opening : ContourRun (heldW .abrasive) lineW [] := ⟨fun _ => rfl, fun h => absurd h (by decide)⟩
  simp only [BedOpen, Resting, StandsOn, OnlyClosed, forall_zone, opening, inContourW_run, inContourW_joins, true_and]
  refine ⟨?_, ?_, ?_, ?_, ?_, ?_⟩ <;> decide +kernel

/-- A head that runs to a stop point 100 µm ahead at 420 mm/min. -/
def coastingW (s : State) : State :=
  { s with axis := { s.axis with
      speed := 420, stopRun := some { legs := s.plan.legs, pos60 := 600, at_ := 110, decel := 800, vmax := 420 } } }

/-- A reference run with X in a phase, on a line or still, and Y still. -/
def homingOnXW (phase : HomingPhase) (run : Option LineRun) : State :=
  let s := inState .homing none idleW
  { s with axis := { s.axis with homing := some {
      x := { phase := phase, run := run }, y := { phase := .raising, run := none }, timer := some 60000
      ending := false } } }

/-- A reference run with X seeking and Y coming back to its home coordinate. -/
def homingBothW (x y : LineRun) : State :=
  let s := inState .homing none idleW
  { s with axis := { s.axis with homing := some {
      x := { phase := .seeking, run := some x }, y := { phase := .returningBack, run := some y }, timer := some 60000
      ending := false } } }

/-- X seeking at 500 mm/min, 600 µm from where it began. -/
def seekingRun : LineRun :=
  { start := 0, dir := -1, pos60 := 36000, speed := 500, len := none, v0 := 0, vmax := 1000, acc := 800 }

/-- An axis coming back at 500 mm/min, 600 µm along its line of `n` µm. -/
def returningRun (n : Nat) : LineRun := { seekingRun with dir := 1, len := some n }

/-- R110, R117, R103: a trip while Y comes back at 500 mm/min with 10 µm to its end keeps that end, and the next step is
a_emergency's bound there: isqrt(72 × 2,000 × 10 / 10) = 379 sixtieths. -/
theorem test_trip_stops_returning_axis_at_emergency :
    (let y (t : State) := (t.axis.homing.bind (fun h => h.y.run)).map (fun r => (r.len, r.acc, r.speed))
     let t := after (.tripInputActive .estop) (homingBothW seekingRun (returningRun 610))
     y t = some (some 610, 2000, 500) ∧ y (after (.interpolationPeriod 0 0 false false) t) = some (some 610, 2000, 379)) := by
  decide +kernel

/-- A reference run with X seeking and Y coming back moves under `s`, Y's line ending `n` µm along it: the run is under
way, or an earlier order has ended it. -/
def ReferenceMoves (s : State) (n : Nat) (ended : Bool) : Prop :=
  s.job.state = .homing ∧ s.axis.frozen = false
  ∧ ∃ g, s.axis.homing = some g ∧ g.ending = ended ∧ g.x.run = some seekingRun ∧ g.y.run = some (returningRun n)
    ∧ g.x.phase = .seeking ∧ g.y.phase = .returningBack

/-- The same run after an earlier order of R110 has ended it. -/
def endedW (s : State) : State :=
  { s with axis := { s.axis with homing := s.axis.homing.map (fun h => { h with ending := true }) } }

theorem referenceMoves_homingBothW (n : Nat) :
    ReferenceMoves (homingBothW seekingRun (returningRun n)) n false
    ∧ ReferenceMoves (endedW (homingBothW seekingRun (returningRun n))) n true :=
  ⟨⟨rfl, rfl, _, rfl, rfl, rfl, rfl, rfl, rfl⟩, ⟨rfl, rfl, _, rfl, rfl, rfl, rfl, rfl, rfl⟩⟩

/-- The stopping distances from 500 mm/min at a_emergency and a_traverse. -/
theorem distances_from_500 : IsStoppingDistance seekingRun.speed 2000 18 ∧ IsStoppingDistance seekingRun.speed 800 44 :=
  ⟨stops_within (by decide) (by decide), stops_within (by decide) (by decide)⟩

/-- ABORTING with the head at its ABORT stop, 10,000 µm along the LINE, and the jet CLOSED or still CLOSING. -/
def abortingW (j : JetState) : State :=
  let s := inState .aborting none (heldW .host)
  { s with
    jet := { s.jet with state := j }
    lines := { s.lines with valveClosed := j == .closed }
    plan := { s.plan with
      holdStop := none
      stops := [{ kind := .abort, pos := 10000, decel := 800, committed := true, zone := none, inside := false }] } }

/-- IDLE; moving, along the path and coasting; standing with the jet CLOSED; a reference run with the axes still, and
with X seeking while Y comes back with room to stop and with 20 µm left; and both ends of ABORTING. -/
theorem witness_StopFlushesOrAborts :
    (idleW.hasRoom = true ∧ idleW.job.state = .idle ∧ movingW.hasRoom = true ∧ movingW.job.state = .run
      ∧ movingW.axis.speed = 420 ∧ movingW.axis.stopRun = none ∧ movingW.axis.homing = none
      ∧ movingW.cfg.aTraverse = 800
      ∧ (∀ u ∈ movingW.plan.allStops,
          60 * u.pos < (movingW.axis.pathPos : Int) ∨ ((movingW.axis.pathPos / 60 + 31 : Nat) : Int) ≤ u.pos))
    ∧ (let s := { nearEndW with axis := { nearEndW.axis with pathPos := 60 * 99980 } }
       s.plan.allStops.map Stop.pos = [100000] ∧ 100000 < ((s.axis.pathPos / 60 + 31 : Nat) : Int))
    ∧ IsStoppingDistance 420 800 31
    ∧ (let s := coastingW (inState .run (some .moving) idleW)
       s.hasRoom = true ∧ s.job.state = .run ∧ 0 < s.axis.speed ∧ s.axis.stopRun.isSome = true ∧ s.axis.pathPos = 0)
    ∧ (let s := heldW .host
       s.hasRoom = true ∧ s.job.state = .hold ∧ Resting s ∧ s.axis.pathPos = 60 * 10000 ∧ s.jet.state = .closed)
    ∧ (let s := homingOnXW .raising none
       s.hasRoom = true ∧ s.job.state = .homing ∧ s.axis.homing.isSome = true ∧ s.axis.frozen = false
       ∧ s.axis.stopRun = none ∧ s.axis.pathPos = 60 * 0 ∧ s.jet.state = .closed ∧ s.jet.seq = none
       ∧ s.axis.speed = 0)
    ∧ (let s := homingBothW seekingRun (returningRun 1000)
       s.hasRoom = true ∧ s.job.state = .homing ∧ s.axis.homing.isSome = true ∧ s.axis.frozen = false
       ∧ s.axis.stopRun = none ∧ s.axis.pathPos = 60 * 0 ∧ s.jet.seq = none ∧ s.cfg.aTraverse = 800
       ∧ s.jet.state = .closed
       ∧ s.axis.homing.bind (fun h => h.x.run) = some seekingRun
       ∧ s.axis.homing.bind (fun h => h.y.run) = some (returningRun 1000) ∧ 0 < seekingRun.speed
       ∧ seekingRun.len = none ∧ (returningRun 1000).pos60 / 60 + 44 < 1000 ∧ 620 ≤ (returningRun 620).pos60 / 60 + 44)
    ∧ IsStoppingDistance seekingRun.speed 800 44
    ∧ (let s := abortingW .closing
       s.job.state = .aborting ∧ s.job.hold = none ∧ s.job.deferred = false ∧ s.axis.stopRun = none
       ∧ s.axis.homing = none ∧ s.jet.seq = none ∧ (∀ u ∈ s.plan.stops, 60 * u.pos = (s.axis.pathPos : Int))
       ∧ s.axis.speed = 0 ∧ s.jet.state = .closing)
    ∧ (∀ j ∈ [JetState.closed, .closing],
       (let s := abortingW j
        s.plan.stops.length = 1 ∧ s.jet.state = j ∧ s.config = some cfgW ∧ s.axis.frozen = false
        ∧ s.queue.recBack = false ∧ pointHere s = s.axis.setPoint
        ∧ WithinWarn cfgW s.axis.setPoint ⟨10000 + s.axis.offset.x, 0 + s.axis.offset.y⟩)) := by
  simp only [distances_from_500.2, distances_from_420.2.1, Resting, WithinWarn]
  iterate 9 refine ⟨by decide +kernel, ?_⟩
  decide +kernel

/-- FAULT of kind Z_TIMEOUT, with the residency running or expired and the cause present or gone. -/
def faultW (residency : Option Nat) (z : Option ZPos) : State :=
  let s := inState .fault none idleW
  { s with job := { s.job with residency := residency }, lines := { s.lines with zReached := z } }

/-- One ms of residency left; expired with Z off its position; expired with Z there, the head at rest and still coming
to rest. -/
theorem witness_ClearAnswersByResidencyAndCause :
    ((faultW (some 1) none).hasRoom = true ∧ (faultW (some 1) none).job.state = .fault
      ∧ (faultW (some 1) none).job.fault.kind = some .zTimeout ∧ (faultW (some 1) none).job.residency = some 1
      ∧ (faultW none none).job.residency = none ∧ CausePresent (faultW none none) .zTimeout
      ∧ ¬ CausePresent (faultW none (some .clear)) .zTimeout ∧ Resting (faultW none (some .clear)))
    ∧ (let s := faultW none (some .cut)
       let s : State := { s with axis := { s.axis with zCmd := .cut, speed := 5 } }
       ¬ CausePresent s .zTimeout ∧ s.config ≠ none ∧ ¬ Resting s ∧ s.axis.zCmd ≠ .clear) := by
  simp only [CausePresent, Resting]
  decide +kernel

/-- A reference run with X HOME and Y coming back to its home coordinate, 100 µm away when it set out. -/
def returningW (run60 : Nat) (y : Int) : State :=
  let s := inState .homing none idleW
  { s with axis := { s.axis with
      zConfirmed := true, setPoint := ⟨20000, y⟩, actual := ⟨20000, y⟩
      homing := some {
        x := { phase := .home, run := none }
        y := { phase := .returningBack, run := some {
          start := 19900, dir := 1, pos60 := run60, speed := 5, len := some 100, v0 := 0, vmax := 1000, acc := 800 } }
        timer := some 60000, ending := false } } }

/-- With Z at CUT, with CLEAR commanded and PENDING, with CLEAR named by the input before it is commanded, and with
CLEAR confirmed, no home switch, that of X and both being active; a period with Y still coming back, and one that finds
it home; and a seeking axis, and one at its stop. -/
theorem witness_ReferenceBeginsTheRun :
    (let s : State := { idleW with
       axis := { idleW.axis with zCmd := .cut }, lines := { idleW.lines with zReached := some .cut } }
     s.hasRoom = true ∧ s.job.state = .idle ∧ s.axis.zCmd ≠ .clear ∧ s.lines.zReached ≠ some .clear ∧ Resting s)
    ∧ (let s : State := { idleW with axis := { idleW.axis with zConfirmed := false } }
       s.axis.zCmd = .clear ∧ s.axis.zConfirmed = false ∧ Resting s)
    ∧ (let s : State := { idleW with axis := { idleW.axis with zCmd := .cut } }
       s.axis.zCmd ≠ .clear ∧ s.lines.zReached = some .clear ∧ Resting s)
    ∧ (idleW.hasRoom = true ∧ idleW.job.state = .idle ∧ idleW.axis.zCmd = .clear ∧ idleW.axis.zConfirmed = true
      ∧ Resting idleW ∧ idleW.lines.homeX = false ∧ idleW.lines.homeY = false)
    ∧ (∀ y : Bool, ({ idleW with lines := { idleW.lines with homeX := true, homeY := y } } : State).lines.homeY = y)
    ∧ idleW.axis.setPoint = idleW.axis.actual
    ∧ (let s := returningW 3000 19950
       let x := homeAxis 800 20000 20000 20000 false { phase := .home, run := none }
       s.job.state = .homing ∧ s.config = some cfgW ∧ s.axis.frozen = false ∧ s.axis.stopRun = none
       ∧ s.axis.homing.isSome = true ∧ x.homing.phase = .home
       ∧ WithinWarn cfgW ⟨20000, 19951⟩ ⟨20000, 19950⟩)
    ∧ (let s := returningW 6000 20000
       s.axis.homing.bind (fun h => h.y.run.map LineRun.pos60) = some 6000
       ∧ s.axis.homing.bind (fun h => h.y.run.bind LineRun.len) = some 100
       ∧ WithinWarn cfgW ⟨20000, 20000⟩ ⟨20000, 20000⟩)
    ∧ 0 < seekingRun.speed
    ∧ (let r := returningRun 1000
       r.len = some 1000 ∧ r.pos60 < 60 * 1000 ∧ movedOnLine r ≠ { r with speed := 0 }) := by
  simp only [Resting, WithinWarn]
  decide +kernel

/-- Level 3; CUT of slot 8; OFF of a STEADY pump; STANDBY and CUT by each pump state, STEADY at the code asked for and
at another. -/
theorem witness_PressureActsByThePumpState :
    idleW.hasRoom = true ∧ idleW.job.state = .idle ∧ 2 < 3 ∧ idleW.material 8 = none
    ∧ (pumpW .steady 76).hasRoom = true ∧ (pumpW .steady 76).pump.state ≠ .off
    ∧ idleW.material 7 = some (materialRecOf quartz) ∧ idleW.pump.state = .off ∧ idleW.lines.pumpRunning = false
    ∧ (pumpW .starting 0).pump.state = .starting ∧ (pumpW .ramping 76).pump.state = .ramping
    ∧ (pumpW .steady 76).pump.state = .steady
    ∧ levelCode (pumpW .steady 76).cfg { level := .cut, pressure := (materialRecOf quartz).pCut } = 76
    ∧ levelCode (pumpW .steady 76).cfg { level := .standby, pressure := 0 } ≠ 76
    ∧ ¬ ReadingWithin (pumpW .steady 76) (levelCode (pumpW .steady 76).cfg { level := .standby, pressure := 0 }) := by
  simp only [ReadingWithin, WithinTolerance]; decide +kernel

/-- In IDLE; in RUN/MOVING at the limit of 420 mm/min, where 100 percent asks for no slowing and 50 percent, whose limit
is 210, for 919 µm; and in HOLD on the LINE. -/
theorem witness_OverrideIsClampedAndStored :
    (idleW.hasRoom = true ∧ idleW.job.state ≠ .run ∧ idleW.job.state ≠ .hold)
    ∧ (let s := movingW
       s.hasRoom = true ∧ s.job.state = .run ∧ s.job.sub = some .moving ∧ s.axis.speed = 420 ∧ BedOpen s
       ∧ s.queue.entries = [lineW] ∧ lineW.kind.cutting = true ∧ s.entryMaterial lineW = some (materialRecOf quartz)
       ∧ s.queue.recPath = [] ∧ s.plan.approach = none ∧ s.axis.stopRun = none ∧ s.axis.homing = none
       ∧ s.plan.transition = none ∧ s.cfg.aCut = 20)
    ∧ ((heldW .host).job.state = .hold ∧ BedOpen (heldW .host) ∧ (heldW .host).axis.speed = 0)
    ∧ (420 ≤ segmentLimit (materialRecOf quartz) 100 3 lineW.shape
      ∧ segmentLimit (materialRecOf quartz) 50 3 lineW.shape = 210)
    ∧ IsSlowingDistance 420 210 20 919 := by
  have h := distances_from_420.2.2.2
  simp only [h, BedOpen]
  decide +kernel

theorem witness_QueryReadsAndChangesNothing : movingW.hasRoom = true := by decide +kernel

/-- A TRIP with CATCHER still active; one with no trip input active and the head at rest; a head in motion, along its
path and to a stop point; a reference run under way; Y not ready; and two trip inputs active outside TRIP. -/
theorem witness_RestartResetsWarm :
    (tripW.hasRoom = true ∧ tripW.job.state = .trip ∧ ¬ NoTrip { tripW.lines with catcher := true }
      ∧ NoTrip tripW.lines ∧ DrivesReady tripW.lines ∧ Resting tripW)
    ∧ (movingW.hasRoom = true ∧ NoTrip movingW.lines ∧ DrivesReady movingW.lines ∧ movingW.axis.frozen = false
      ∧ movingW.axis.homing = none ∧ movingW.axis.speed = 420 ∧ movingW.axis.stopRun = none
      ∧ movingW.cfg.aTraverse = 800)
    ∧ (coastingW idleW).axis.stopRun.isSome = true ∧ IsStoppingDistance 420 800 31
    ∧ (movingW.config.isSome = true ∧ NoTrip { movingW.lines with readyY := false }
      ∧ ¬ DrivesReady { movingW.lines with readyY := false })
    ∧ (movingW.job.state ≠ .trip ∧ ¬ NoTrip { movingW.lines with overpressure := true, catcher := true })
    ∧ ((∀ n, ReferenceMoves (homingBothW seekingRun (returningRun n)) n false)
      ∧ NoTrip (homingBothW seekingRun (returningRun 620)).lines
      ∧ DrivesReady (homingBothW seekingRun (returningRun 620)).lines
      ∧ (homingBothW seekingRun (returningRun 620)).hasRoom = true
      ∧ (homingBothW seekingRun (returningRun 620)).cfg.aTraverse = 800
      ∧ IsStoppingDistance seekingRun.speed 800 44) := by
  have h := distances_from_420.2.1
  simp only [h, distances_from_500.2, referenceMoves_homingBothW, implies_true, NoTrip, DrivesReady, Resting]
  decide +kernel

/-! ## Witnesses: trips, faults and inputs -/

/-- Cutting with the jet OPEN, in PREPARING with the switch active, coasting, and in TRIP; a reference run with Y's end
beyond its stopping distance, at it and within it, and with its axes still. -/
theorem witness_TripInputTakesThePartToTrip :
    (movingW.job.state ≠ .trip ∧ movingW.jet.state = .opened ∧ movingW.axis.frozen = false ∧ movingW.axis.homing = none
      ∧ movingW.axis.speed = 420 ∧ movingW.cfg.aEmergency = 2000)
    ∧ ((piercingW .preparing none).jet.state = .preparing ∧ (piercingW .preparing none).lines.valveClosed = true)
    ∧ (coastingW movingW).axis.stopRun.isSome = true
    ∧ (tripW.job.state = .trip ∧ tripW.zone.lampA = .off ∧ tripW.zone.lampB = .off)
    ∧ IsStoppingDistance 420 2000 13
    ∧ ((∀ n, ReferenceMoves (homingBothW seekingRun (returningRun n)) n false
          ∧ ReferenceMoves (endedW (homingBothW seekingRun (returningRun n))) n true)
      ∧ (homingBothW seekingRun (returningRun 610)).cfg.aEmergency = 2000 ∧ seekingRun.len = none
      ∧ (returningRun 619).pos60 / 60 + 18 < 619 ∧ (returningRun 618).pos60 / 60 + 18 = 618
      ∧ 610 ≤ (returningRun 610).pos60 / 60 + 18 ∧ IsStoppingDistance seekingRun.speed 2000 18)
    ∧ ((homingOnXW .raising none).job.state ≠ .trip ∧ (homingOnXW .raising none).axis.homing.isSome = true
      ∧ (homingOnXW .raising none).axis.frozen = false) := by
  have h := distances_from_420.2.2.1
  simp only [h, distances_from_500.1, referenceMoves_homingBothW, and_self, implies_true]
  decide +kernel

theorem witness_DriveNotReadyFaultsAndFreezes :
    State.reset.config = none ∧ State.reset.job.state = .unconfigured ∧ State.reset.zone.lampA = .off
    ∧ State.reset.zone.lampB = .off ∧ movingW.config.isSome = true ∧ movingW.job.state = .run
    ∧ movingW.jet.state = .opened ∧ movingW.pump.state ≠ .off := by
  decide +kernel

theorem witness_ZConfirmationFollowsTheInput :
    idleW.job.state = .idle ∧ idleW.jet.state = .closed ∧ idleW.axis.homing = none := by
  decide +kernel

/-- A reference run with X latched and Y still seeking, its timer and the Z timer at their last millisecond. -/
def homingW : State :=
  let s := inState .homing none idleW
  { s with axis := { s.axis with
      zConfirmed := false, zTimer := some 0
      homing := some {
        x := { phase := .home, run := none }, y := seekFrom 800 0, timer := some 0, ending := false } } }

/-- A reference run in which both timers have run out; cutting, with the Z timer run out and with it stopped; and a
reference run whose axes move, with Y's end beyond its stopping distance and within it. -/
theorem witness_ZAndHomingTimeoutsFault :
    (homingW.job.state = .homing ∧ homingW.axis.frozen = false ∧ homingW.axis.zTimer.isSome = true
      ∧ homingW.axis.zConfirmed = false ∧ homingW.axis.homing.bind Homing.timer = some 0)
    ∧ (let s : State := { movingW with axis := { movingW.axis with zConfirmed := false, zTimer := some 0 } }
       s.job.state = .run ∧ s.axis.frozen = false ∧ s.axis.zTimer = some 0 ∧ s.jet.state = .opened
       ∧ s.axis.speed = 420 ∧ s.axis.homing = none ∧ s.cfg.aTraverse = 800)
    ∧ idleW.job.state = .idle ∧ idleW.axis.frozen = false ∧ idleW.axis.zTimer = none
    ∧ IsStoppingDistance 420 800 31
    ∧ ((∀ n, ReferenceMoves (homingBothW seekingRun (returningRun n)) n false)
      ∧ (homingBothW seekingRun (returningRun 620)).axis.homing.bind Homing.timer = some 60000
      ∧ (returningRun 645).pos60 / 60 + 44 < 645 ∧ 644 ≤ (returningRun 644).pos60 / 60 + 44
      ∧ IsStoppingDistance seekingRun.speed 800 44) := by
  have h := distances_from_420.2.1
  simp only [h, distances_from_500.2, referenceMoves_homingBothW, implies_true]
  decide +kernel

/-! ## Witnesses: the interpolation period -/

/-- Errors at the two limits, which raise nothing, and one µm beyond them: X past the fault limit, Y alone past it, and
the hundredth excursion of X. -/
theorem witness_PeriodAtRestWatchesTheAxes :
    idleW.job.state = .idle ∧ idleW.config = some cfgW ∧ idleW.axis.frozen = false ∧ Resting idleW
    ∧ ¬ cfgW.warnLimit < errorOf idleW.axis.setPoint.x 500 ∧ ¬ cfgW.faultLimit < errorOf idleW.axis.setPoint.y 1000
    ∧ (cfgW.faultLimit < errorOf idleW.axis.setPoint.x (-1001) ∧ idleW.axis.beyondX = false)
    ∧ (cfgW.faultLimit < errorOf idleW.axis.setPoint.y 1001 ∧ idleW.axis.beyondY = false)
    ∧ (cfgW.warnLimit < errorOf idleW.axis.setPoint.x 501 ∧ ¬ cfgW.faultLimit < errorOf idleW.axis.setPoint.x 501
        ∧ cfgW.excursionThreshold ≤ min 65535 (99 + 1) ∧ idleW.axis.threshold = false) := by
  simp only [Resting, errorOf]; decide +kernel

/-- The LINE and its way on into zone B, queued. -/
def twoLinesW : State :=
  let f : QueueEntry :=
    { lineW with seq := 8, shape := some (straightShape ⟨100000, 0⟩ ⟨1700000, 0⟩), opens := false, method := none }
  queued [lineW, f] { movingW with plan := { movingW.plan with approach := none } }

/-- Standstill meets every bound. -/
theorem zero_meetsEveryBound (c : ConfigRec) (p : Plan) (l : Leg) (x : Int) : MeetsEveryBound c p l x 0 := by
  constructor <;> simp

/-- A period on the LINE; the last leg of a plan path, at its start and 9 µm past its end, and the last micrometre of a
leg before it; a plan over two cutting entries with the segment limit 420; and the tangents of a line and of a quarter
circle. -/
theorem witness_PeriodAdvancesAlongTheEntry :
    (let s := movingW
     let sh := straightShape ⟨0, 0⟩ ⟨100000, 0⟩
     let l := { entryLeg movingW lineW with junction := 0, formerJunction := 0, delta := none }
     let x : Int := ((s.axis.pathPos / 60 : Nat) : Int)
     let step := min (max (planSpeed cfgW s.plan x) (planSpeed cfgW s.plan (x + 1)))
       (distanceAhead cfgW s.plan s.axis.pathPos)
     let pos := s.axis.pathPos + step
     let point := if sh.length ≤ pos / 60 then sh.stop else pointAt sh (pos / 60)
     s.job.state = .run ∧ s.job.sub = some .moving ∧ s.config = some cfgW ∧ s.axis.frozen = false
     ∧ s.axis.stopRun = none ∧ s.axis.homing = none ∧ 0 < s.axis.speed ∧ s.plan.legs = l :: [] ∧ l.kind = .entry
     ∧ l.isEnd = false ∧ l.base = 0 ∧ l.shape = some sh ∧ sh.length = l.len ∧ s.queue.recPath = []
     ∧ s.queue.recBack = false ∧ s.jet.recovery = none
     ∧ (∀ a ∈ s.plan.anchors, 60 * a.pos = (s.axis.pathPos : Int) → a.speed ≠ 0)
     ∧ 0 < step ∧ pos < 60 * l.len ∧ errorOf point.x (9507 + s.axis.offset.x) ≤ cfgW.warnLimit
     ∧ errorOf point.y (0 + s.axis.offset.y) ≤ cfgW.warnLimit ∧ cfgW.warnLimit ≤ cfgW.faultLimit)
    ∧ (let p := movingW.plan
       p.legs.length = 1 ∧ (p.legs[0]?).isSome = true ∧ legStart p.legs 0 ≤ 0 ∧ legStart p.legs 0 ≤ 100009)
    ∧ (let p := twoLinesW.plan
       p.legs.length = 2 ∧ (p.legs[0]?).isSome = true ∧ legStart p.legs 0 ≤ 99999 ∧ 99999 < legStart p.legs 1)
    ∧ (∀ c p l x, MeetsEveryBound c p l x 0)
    ∧ (let s := twoLinesW
       s.queue.recPath = [] ∧ s.plan.approach = none ∧ s.queue.entries.length = 2
       ∧ s.entryMaterial lineW = some (materialRecOf quartz) ∧ lineW.quality = some 3
       ∧ deflection (lineW.shape.bind exitTangent) (lineW.shape.bind entryTangent) = some 0)
    ∧ (normSq ⟨1, 0⟩ ≠ 0 ∧ normSq ⟨0, 1⟩ ≠ 0 ∧ dot ⟨1, 0⟩ ⟨0, 1⟩ = 0 ∧ cross ⟨1, 0⟩ ⟨2, 0⟩ = 0 ∧ 0 < dot ⟨1, 0⟩ ⟨2, 0⟩
      ∧ dot ⟨1, 0⟩ ⟨-2, 0⟩ < 0)
    ∧ (0 < (straightShape ⟨0, 0⟩ ⟨100000, 0⟩).length ∧ (straightShape ⟨0, 0⟩ ⟨100000, 0⟩).arc = none
      ∧ (straightShape ⟨0, 0⟩ ⟨0, 0⟩).length = 0 ∧ 0 < (arcShape true ⟨600, 0⟩ ⟨0, 0⟩ ⟨0, 600⟩).length
      ∧ (arcShape true ⟨600, 0⟩ ⟨0, 0⟩ ⟨0, 600⟩).arc.isSome = true) := by
  simp only [errorOf]
  refine ⟨?_, ?_, ?_, zero_meetsEveryBound, ?_, ?_, ?_⟩ <;> decide +kernel

/-! ## Witnesses: the jet and the pump -/

/-- RUN/PIERCING with the jet RAMPING toward CUT: the pump in a state, Z commanded to CUT and PENDING or still at
PIERCE, and a Hold deferred or not. -/
def cuttingUpW (p : PumpState) (z : ZPos) (deferred : Bool) : State :=
  let s := piercingW .ramping none
  { s with
    job := { s.job with deferred := deferred }
    axis := { s.axis with zCmd := z, zConfirmed := z != .cut }
    jet := { s.jet with contour := some { start := 0, method := some .stationary } }
    pump := { s.pump with
      state := p, code := 76, target := { level := .cut, pressure := 380 }
      current := if p = .steady then .cut else .pierce } }

/-- DWELL of a MOVING pierce with the head standing at its CREEP stop, the contour record made. -/
def atCreepStopW (es : List QueueEntry) : State :=
  let s := creepingW .dwell none es
  planCore { s with
    jet := { s.jet with contour := some { start := 0, method := some .moving }, incomplete := true }
    plan := { s.plan with creep := some { limit := 200, stop := 0 } } }

/-- What the end of a MOVING pierce's dwell asks of a state whose queue begins with an entry of a length. -/
def EndsDwell (s : State) (point : Point) : Prop :=
  s.job.state = .run ∧ s.job.sub = some .piercing ∧ s.jet.seq.map SeqRecord.method = some (some .moving)
  ∧ s.jet.state = .dwell ∧ s.config = some cfgW ∧ s.axis.frozen = false ∧ Resting s ∧ s.queue.recPath = []
  ∧ s.queue.recBack = false ∧ s.axis.pathPos = 0
  ∧ (∃ u ∈ s.plan.stops, u.kind = .creep ∧ 60 * u.pos = (s.axis.pathPos : Int))
  ∧ (∀ v ∈ s.plan.allStops, v.kind ≠ .restart ∧ v.kind ≠ .zone)
  ∧ s.pump.state = .steady ∧ s.pump.current = .pierce ∧ demandCode cfgW 380 ≠ s.pump.code
  ∧ ¬ ReadingWithin s (demandCode cfgW 380)
  ∧ WithinWarn cfgW point ⟨10000 + s.axis.offset.x, 0 + s.axis.offset.y⟩

/-- A MOVING pierce: FEEDING on a LINE, where the creep stretch has its full length of 5,000 µm, and on an ARC of length
0, where a stop at the head ends it; and DWELL at the CREEP stop on each. -/
theorem witness_MovingPierce :
    (∀ es ∈ [[lineW], [zeroArcW, endW]],
      (let s := creepingW .feeding (some (.lead 0)) es
       s.job.state = .run ∧ s.job.sub = some .piercing ∧ s.jet.state = .feeding
       ∧ s.jet.seq.map (fun q => (q.timer, q.kind, q.method, q.creepSpeed * q.dwell / 60))
           = some (some (.lead 0), .pierce, some .moving, 5000)
       ∧ s.jet.contour = none ∧ s.queue.recPath = [] ∧ s.axis.pathPos = 60 * 0))
    ∧ (creepingW .feeding (some (.lead 0)) [lineW]).plan.allStops.map (fun u => (u.kind, u.pos))
        = [(.pierce, 0), (.queueEnd, 100000)]
    ∧ (creepingW .feeding (some (.lead 0)) [zeroArcW, endW]).plan.allStops.map (fun u => (u.kind, u.pos))
        = [(.jetOff, 0), (.segEnd, 0), (.pierce, 0)]
    ∧ EndsDwell (atCreepStopW [lineW]) (pointHere (atCreepStopW [lineW]))
    ∧ (atCreepStopW [lineW]).plan.legs.map Leg.len = [100000]
    ∧ EndsDwell (atCreepStopW [zeroArcW, endW]) ⟨10003, 0⟩
    ∧ (let s := atCreepStopW [zeroArcW, endW]
       s.plan.creep.isSome = true ∧ s.jet.contour = some { start := 0, method := some .moving }
       ∧ s.queue.entries = [zeroArcW, endW] ∧ zeroArcW.kind.cutting = true
       ∧ zeroArcW.shape.map (fun h => (h.length, h.stop)) = some (0, ⟨10003, 0⟩)
       ∧ s.plan.legs.map (fun l => (l.kind, l.cutting, l.isEnd, l.base, l.len))
           = [(.entry, true, false, 0, 0), (.entry, false, true, 0, 0)]
       ∧ s.plan.legs.head?.bind Leg.shape = zeroArcW.shape) := by
  simp only [EndsDwell, Resting, ReadingWithin, WithinTolerance, WithinWarn]
  refine ⟨?_, ?_, ?_, ?_, ?_, ?_, ?_⟩ <;> decide +kernel

/-- PREPARING, FEEDING and DWELL with their stage timers at 0 ms; the reading that ends the ramp; and CUT confirmed,
with no Hold deferred and with one. The clauses of a MOVING pierce are witnessed above. -/
theorem witness_StageTimersAdvanceThePierce :
    (let s := piercingW .preparing (some (.settle 0))
     s.job.state = .run ∧ s.job.sub = some .piercing ∧ s.jet.state = .preparing
     ∧ (s.jet.seq.map SeqRecord.timer) = some (some (.settle 0)) ∧ (s.jet.seq.map SeqRecord.rate) = some 350
     ∧ 0 < s.cfg.abrasiveLead)
    ∧ (let s := piercingW .feeding (some (.lead 0))
       s.job.state = .run ∧ s.job.sub = some .piercing ∧ s.jet.state = .feeding
       ∧ (s.jet.seq.map SeqRecord.timer) = some (some (.lead 0)) ∧ (s.jet.seq.map SeqRecord.kind) = some .pierce
       ∧ (s.jet.seq.map SeqRecord.method) = some (some .stationary) ∧ (s.jet.seq.map SeqRecord.dwell) = some 1500
       ∧ s.jet.contour = none ∧ s.queue.recPath = [])
    ∧ (let s := piercingW .dwell (some (.dwell 0))
       s.job.state = .run ∧ s.job.sub = some .piercing ∧ s.jet.state = .dwell
       ∧ (s.jet.seq.map SeqRecord.timer) = some (some (.dwell 0)) ∧ s.pump.state = .steady ∧ s.pump.current = .pierce
       ∧ demandCode s.cfg 380 ≠ s.pump.code ∧ ¬ ReadingWithin s (demandCode s.cfg 380))
    ∧ (let s := cuttingUpW .ramping .pierce false
       s.job.state = .run ∧ s.job.sub = some .piercing ∧ s.jet.seq.isSome = true ∧ s.jet.state = .ramping
       ∧ s.pump.state = .ramping ∧ s.pump.target.level = .cut ∧ s.pump.latch = none
       ∧ WithinTolerance s.cfg.tolerance s.pump.code 390 ∧ s.axis.zCmd ≠ .cut ∧ s.lines.zReached ≠ some .cut)
    ∧ (let s := cuttingUpW .steady .cut false
       s.jet.state = .ramping ∧ s.jet.seq.isSome = true ∧ s.pump.state = .steady ∧ s.pump.current = .cut
       ∧ s.axis.homing = none ∧ s.axis.zCmd = .cut ∧ s.axis.zConfirmed = false ∧ s.job.deferred = false ∧ BedOpen s)
    ∧ (let s := cuttingUpW .steady .cut true
       s.job.deferred = true ∧ s.axis.speed = 0 ∧ s.axis.pathPos = 60 * 0 ∧ s.config.isSome = true) := by
  simp only [ReadingWithin, WithinTolerance, BedOpen]
  decide +kernel

/-- The jet CLOSING in a controller state, its valve timer started in HOLD and run out. -/
def closingW (st : CtrlState) : State :=
  let s := inState st none idleW
  { s with
    jet := { s.jet with state := .closing, valveTimer := some (0, .hold) }
    lines := { s.lines with valveClosed := false } }

theorem witness_ValveSwitchAndTimer :
    (closingW .idle).jet.state = .closing ∧ (closingW .idle).jet.seq = none ∧ (closingW .idle).job.state = .idle
    ∧ idleW.jet.state = .closed ∧ (closingW .idle).jet.valveTimer = some (0, .hold)
    ∧ (closingW .aborting).job.state = .aborting ∧ (closingW .aborting).jet.state = .closing
    ∧ (closingW .fault).job.state = .fault ∧ (closingW .fault).job.fault.kind = some .zTimeout
    ∧ (closingW .fault).jet.valveTimer = some (0, .hold) := by
  decide +kernel

/-- RUN/MOVING at a stop of a kind before an entry. -/
def atStopW (kind : StopKind) (e : QueueEntry) (j : JetState) (contour : Option ContourRec) : State :=
  let s := inState .run (some .moving) idleW
  let s := queued [e] { s with axis := { s.axis with speed := 5 }, jet := { s.jet with state := j, contour := contour } }
  { s with plan := { s.plan with stops := [
      { kind := kind, pos := 0, decel := 20, committed := true, zone := none, inside := false }] } }

/-- What the end of a pending recovery asks of a state, with a stop of kind `u`. -/
def EndsRecovery (s : State) (u : StopKind) : Prop :=
  s.config = some cfgW ∧ s.axis.frozen = false ∧ Resting s ∧ s.queue.recPath = [] ∧ s.queue.recBack = false
  ∧ s.jet.recovery = some { isPending := true, sStop := 10000, sR := 4000, short := false }
  ∧ s.plan.legs.head?.all (fun l => !l.cutting || decide (0 < l.len)) = true
  ∧ s.jet.contour.map (fun k => k.start + s.queue.progress) = some 10000
  ∧ (∃ w ∈ s.plan.stops, w.kind = u ∧ 60 * w.pos = (s.axis.pathPos : Int))
  ∧ WithinWarn cfgW (pointHere s) ⟨(pointHere s).x + s.axis.offset.x, 0 + s.axis.offset.y⟩

theorem endsRecovery_hold : ∀ u ∈ [StopKind.jetOff, .segEnd], ∀ j ∈ [JetState.closed, .closing],
    EndsRecovery (pendingAt u 10000 (stoppingW j)) u := by
  simp only [EndsRecovery, Resting, WithinWarn]
  decide +kernel

theorem endsRecovery_run : EndsRecovery (pendingAt .jetOff 0 (atStopW .jetOff traverseW .closed none)) .jetOff := by
  simp only [EndsRecovery, Resting, WithinWarn]
  decide +kernel

/-- A recovery pending at a stop in RUN while the valve switch has not reported. -/
def endingRecoveryW (u : StopKind) (e : QueueEntry) : State := pendingAt u 0 (atStopW u e .closing none)

/-- R43, R140: the switch that closes the jet at an END at s_stop ends the recovery and retires the END. -/
theorem test_switch_ends_recovery :
    (let t := after .valveSwitchActive (endingRecoveryW .segEnd endW)
     t.job.state = .idle ∧ t.queue.entries = [] ∧ t.jet.recovery = none) := by
  decide +kernel

theorem endsRecovery_switch :
    EndsRecovery (endingRecoveryW .jetOff traverseW) .jetOff ∧ EndsRecovery (endingRecoveryW .segEnd endW) .segEnd := by
  simp only [EndsRecovery, Resting, WithinWarn]
  decide +kernel

/-- A disarmed monitor; an armed one on the LINE, with no recovery recorded and with one pending; and a recovery pending
at a JET_OFF stop and at an END stop, in HOLD and in RUN, with the jet CLOSED and CLOSING. -/
theorem witness_AbrasiveMonitorHoldsTheJob :
    (idleW.jet.armed = false ∧ movingW.jet.armed = true
      ∧ movingW.jet.contour = some { start := 0, method := some .stationary } ∧ movingW.queue.recPath = []
      ∧ movingW.job.state = .run ∧ movingW.job.sub = some .moving ∧ 0 < movingW.axis.speed ∧ movingW.job.hold = none
      ∧ movingW.queue.entries = [lineW] ∧ movingW.jet.recovery = none
      ∧ ({ isPending := true, sStop := 12000, sR := 4000, short := false } : RecoveryRec).isPending = true)
    ∧ (∀ u ∈ [StopKind.jetOff, .segEnd], ∀ j ∈ [JetState.closed, .closing],
        EndsRecovery (pendingAt u 10000 (stoppingW j)) u)
    ∧ (∀ u ∈ [StopKind.jetOff, .segEnd], ∀ j ∈ [JetState.closed, .closing],
        (let s := pendingAt u 10000 (stoppingW j)
         s.jet.state = j ∧ s.jet.seq = none ∧ s.job.state = .hold ∧ s.job.sub = some .stopping
         ∧ s.plan.holdStop.map (fun h => 60 * h.pos) = some (s.axis.pathPos : Int)))
    ∧ EndsRecovery (pendingAt .jetOff 0 (atStopW .jetOff traverseW .closed none)) .jetOff
    ∧ (let s := pendingAt .jetOff 0 (atStopW .jetOff traverseW .closed none)
       s.jet.state = .closed ∧ s.job.state = .run ∧ s.job.sub = some .moving ∧ s.axis.pathPos = 0
       ∧ s.plan.approach = none ∧ BedOpen s ∧ s.queue.entries = [traverseW] ∧ traverseW.kind = .traverse
       ∧ (s.plan.legs.head?.map Leg.isTraverse) = some true ∧ (s.plan.legs.head?.map Leg.len) = some 100000)
    ∧ (EndsRecovery (endingRecoveryW .jetOff traverseW) .jetOff ∧ EndsRecovery (endingRecoveryW .segEnd endW) .segEnd)
    ∧ (∀ p ∈ [(StopKind.jetOff, traverseW), (.segEnd, endW)],
        (let s := endingRecoveryW p.1 p.2
         s.job.state = .run ∧ s.job.sub = some .moving ∧ s.axis.pathPos = 0 ∧ s.plan.approach = none ∧ BedOpen s
         ∧ s.queue.entries = [p.2] ∧ s.jet.state = .closing ∧ s.jet.seq = none)) := by
  simp only [BedOpen]
  exact ⟨by decide +kernel, endsRecovery_hold, by decide +kernel, endsRecovery_run, by decide +kernel,
    endsRecovery_switch, by decide +kernel⟩

/-- A pump OFF, STARTING with and without a latched request, and RAMPING with its timer at 0 ms. -/
theorem witness_PumpStartsRampsOrFaults :
    idleW.job.state = .idle ∧ idleW.jet.state = .closed ∧ idleW.pump.state = .off
    ∧ (pumpW .starting 0).job.state = .idle ∧ (pumpW .starting 0).jet.state = .closed
    ∧ (pumpW .starting 0).pump.state = .starting
    ∧ ¬ ReadingWithin (pumpW .starting 0) (levelCode (pumpW .starting 0).cfg { level := .standby, pressure := 0 })
    ∧ (pumpW .starting 0).pump.startTimer = some 5000
    ∧ (pumpW .ramping 76).pump.state = .ramping ∧ (pumpW .ramping 76).pump.rampTimer = some 5000 := by
  simp only [ReadingWithin, WithinTolerance]; decide +kernel

/-- RUN/MOVING on the LINE with the pump in a state at code 76 and the valve open. -/
def cuttingPumpW (st : PumpState) (band : Option Band) : State :=
  { movingW with pump := { movingW.pump with
      state := st, band := band, rampTimer := if st = .ramping then some 5000 else none } }

/-- In IDLE: readings at the edge of tolerance and one MPa beyond it, with and without a latched request, both ladder
timers and a drift run out, the valve closed. Cutting: the band below, above and around the demand pressure with no band
timer and with a dip, a dip run out, and the running input lost, each with the valve open. In CLOSING, after the close
in IDLE. A reading that only a tolerance replaced by a Configure admits. -/
theorem witness_PumpFollowsItsReadings :
    (idleW.job.state = .idle ∧ idleW.jet.state = .closed ∧ idleW.pump.state = .off
      ∧ (closingW .idle).job.state = .idle ∧ (closingW .idle).jet.state = .closing)
    ∧ (let s := pumpW .ramping 76
       s.job.state = .idle ∧ s.jet.state = .closed ∧ s.pump.state = .ramping ∧ s.pump.latch = none
       ∧ ¬ WithinTolerance s.cfg.tolerance 76 369 ∧ WithinTolerance s.cfg.tolerance 76 370
       ∧ levelCode s.cfg { level := .standby, pressure := 0 } ≠ 76
       ∧ ¬ WithinTolerance s.cfg.tolerance (levelCode s.cfg { level := .standby, pressure := 0 }) 370
       ∧ s.pump.valveOpen = false)
    ∧ (let s := pumpW .steady 76
       s.pump.state = .steady ∧ s.pump.valveOpen = false ∧ demandCode s.cfg s.cfg.standbyPressure ≠ s.pump.code
       ∧ ¬ ReadingWithin s (demandCode s.cfg s.cfg.standbyPressure) ∧ ¬ ReadingWithin s s.pump.code
       ∧ ({ s.pump with standbyTimer := some 0, offTimer := some 0 } : Pump).offTimer = some 0)
    ∧ (let s := cuttingPumpW .steady (some { ms := 0, dip := true, lowest := 300 })
       s.job.state = .run ∧ s.jet.state = .opened ∧ s.pump.state = .steady ∧ s.pump.valveOpen = true
       ∧ s.pump.band = some { ms := 0, dip := true, lowest := 300 }
       ∧ 369 + s.cfg.tolerance < 5 * s.pump.code ∧ 5 * s.pump.code + s.cfg.tolerance < 391)
    ∧ ((cuttingPumpW .ramping none).pump.state = .ramping ∧ (cuttingPumpW .ramping none).pump.valveOpen = true)
    ∧ (let s : State := { pumpW .steady 76 with pump := { (pumpW .steady 76).pump with formerTolerance := some 30 } }
       ReadingWithin { s with lines := { s.lines with reading := 350 } } s.pump.code
       ∧ ¬ WithinTolerance s.cfg.tolerance s.pump.code 350) := by
  simp only [ReadingWithin, WithinTolerance]
  decide +kernel

/-- RUN/MOVING at 420 mm/min on the first of two entries, `x` µm along it, the second reaching into zone B. -/
def towardsBW (e f : QueueEntry) (x : Nat) : State :=
  queued [e, f] { movingW with
    axis := { movingW.axis with pathPos := 60 * x, setPoint := ⟨x, 0⟩ }
    queue := { movingW.queue with progress := x } }

/-- The LINE's way on into zone B, as a cutting entry of the same contour and as a TRAVERSE. -/
def lineIntoB : QueueEntry :=
  { lineW with seq := 8, shape := some (straightShape ⟨100000, 0⟩ ⟨1700000, 0⟩), opens := false, method := none }

def traverseIntoB : QueueEntry := { traverseW with seq := 8, shape := lineIntoB.shape }

/-- What the ZONE placement asks of a state, but for the kinds of its two entries. -/
def PlacesZone (s : State) (e f : QueueEntry) : Prop :=
  s.job.state = .run ∧ s.job.sub = some .moving ∧ s.axis.speed = 420 ∧ s.job.hold = none ∧ s.config.isSome = true
  ∧ s.cfg.zoneCount = 2 ∧ s.lines.guardOpen .a = false ∧ s.queue.entries = [e, f] ∧ s.queue.recPath = []
  ∧ s.plan.approach = none ∧ s.plan.creep = none ∧ s.plan.holdStop = none ∧ s.axis.stopRun = none
  ∧ s.axis.homing = none ∧ 0 < s.axis.pathPos ∧ s.axis.pathPos < 60 * 100000
  ∧ e.shape.map Shape.length = some 100000 ∧ f.shape.map Shape.length = some 1600000
  ∧ (∀ u ∈ s.plan.stops, (s.axis.pathPos : Int) < 60 * u.pos ∧ u.committed = false ∧ u.kind ≠ .zone)
  ∧ zoneInUse s .b = false ∧ f.touches s.cfg .b = true ∧ s.cfg.aCut = 20 ∧ s.cfg.aTraverse = 800

/-- The head has come to the junction before an entry in the closed zone B, where a ZONE stop stands. -/
def atZoneStopW (e : QueueEntry) (j : JetState) (contour : Option ContourRec) : State :=
  let s := inState .run (some .moving) idleW
  let s := closedW .b (queued [e] { s with axis := { s.axis with speed := 5, setPoint := ⟨100000, 0⟩ } })
  { s with
    jet := { s.jet with state := j, contour := contour }
    plan := { s.plan with stops := [
      { kind := .zone, pos := 0, decel := 20, committed := true, zone := some .b, inside := contour.isSome }] } }

/-- RUN/ZONE_WAIT before an entry, the guard of zone A OPEN. -/
def zoneWaitW (e : QueueEntry) : State := closedW .a (queued [e] (inState .run (some .zoneWait) idleW))

/-- IDLE; cutting in zone A with the jet open; HOLD/HELD; the guard of zone B opening ahead of a cutting entry of the
same contour, of a TRAVERSE after the cut, and of a TRAVERSE after a TRAVERSE, with room to stop and with 10 µm left;
arrival at a ZONE stop before a TRAVERSE and inside a contour; and ZONE_WAIT before a TRAVERSE and before a pierce. -/
theorem witness_GuardsCloseZonesAndHold :
    (idleW.job.state = .idle ∧ movingW.job.state = .run ∧ movingW.job.sub = some .moving ∧ 0 < movingW.axis.speed
      ∧ movingW.job.hold = none ∧ movingW.config.isSome = true ∧ zoneInUse movingW .a = true
      ∧ movingW.jet.state = .opened ∧ (heldW .host).job.state = .hold ∧ (heldW .host).job.sub = some .held
      ∧ (heldW .host).jet.state = .closed)
    ∧ PlacesZone (towardsBW lineW lineIntoB 10000) lineW lineIntoB
    ∧ PlacesZone (towardsBW lineW traverseIntoB 10000) lineW traverseIntoB
    ∧ PlacesZone (towardsBW traverseW traverseIntoB 10000) traverseW traverseIntoB
    ∧ PlacesZone (towardsBW traverseW traverseIntoB 99990) traverseW traverseIntoB
    ∧ IsStoppingDistance 420 20 1225 ∧ IsStoppingDistance 420 800 31
    ∧ (let s := atZoneStopW traverseIntoB .closed none
       s.job.state = .run ∧ s.job.sub = some .moving ∧ s.config = some cfgW ∧ s.axis.frozen = false
       ∧ s.axis.stopRun = none ∧ s.axis.homing = none ∧ 0 < s.axis.speed ∧ s.axis.pathPos = 0 ∧ s.queue.recPath = []
       ∧ s.queue.recBack = false ∧ s.jet.recovery = none ∧ s.plan.approach = none ∧ s.job.hold = none
       ∧ (s.plan.legs.head?.map Leg.isEnd) = some false ∧ s.queue.entries = [traverseIntoB]
       ∧ (∃ u ∈ s.plan.stops, u.kind = .zone ∧ u.pos = 0 ∧ u.zone = some .b) ∧ OnlyClosed s .b
       ∧ traverseIntoB.touches s.cfg .b = true ∧ traverseIntoB.kind.cutting = traverseIntoB.opens
       ∧ s.jet.contour = none ∧ WithinWarn cfgW s.axis.setPoint ⟨100000 + s.axis.offset.x, 0 + s.axis.offset.y⟩)
    ∧ (let s := atZoneStopW lineIntoB .closing (some { start := 100000, method := some .stationary })
       s.queue.entries = [lineIntoB] ∧ lineIntoB.kind.cutting = true ∧ s.jet.contour.isSome = true
       ∧ s.jet.state = .closing ∧ (s.plan.legs.head?.map Leg.isEnd) = some false ∧ OnlyClosed s .b
       ∧ lineIntoB.touches s.cfg .b = true)
    ∧ (let s := zoneWaitW traverseW
       s.job.state = .run ∧ s.job.sub = some .zoneWait ∧ Resting s ∧ s.axis.pathPos = 0
       ∧ s.lines.guardOpen .b = false ∧ s.queue.recPath = [] ∧ s.plan.approach = none ∧ s.jet.state = .closed
       ∧ s.queue.entries = [traverseW])
    ∧ (let s := zoneWaitW lineW
       s.queue.entries = [lineW] ∧ lineW.kind.cutting = true ∧ s.plan.approach = none ∧ s.lines.zReached ≠ some .pierce
       ∧ s.axis.zCmd ≠ .pierce) := by
  have h := distances_from_420
  simp only [h.1, h.2.1, PlacesZone, OnlyClosed, Resting, WithinWarn, forall_zone]
  refine ⟨?_, ?_, ?_, ?_, ?_, trivial, trivial, ?_, ?_⟩ <;> decide +kernel

/-- RUN/MOVING on the LINE alone, 5 sixtieths of a µm from its end, at the speed that leaves. -/
def endingW : State :=
  queued [lineW] { movingW with
    axis := { movingW.axis with pathPos := 5999995, speed := 12, setPoint := ⟨99999, 0⟩ }
    queue := { movingW.queue with progress := 99999 } }

/-- RUN/MOVING with nothing queued, the jet CLOSED or CLOSING. -/
def pathDoneW (j : JetState) : State :=
  let s := inState .run (some .moving) idleW
  { s with jet := { s.jet with state := j }, lines := { s.lines with valveClosed := j == .closed } }

/-- What the arrival at a stop asks of a state, but for the entry. -/
def Arrives (s : State) (e : QueueEntry) (kind : StopKind) : Prop :=
  s.job.state = .run ∧ s.job.sub = some .moving ∧ s.config = some cfgW ∧ s.axis.frozen = false ∧ s.axis.stopRun = none
  ∧ s.axis.homing = none ∧ s.queue.recPath = [] ∧ s.queue.recBack = false ∧ s.jet.recovery = none
  ∧ s.plan.approach = none ∧ s.queue.entries = [e] ∧ 0 < s.axis.speed ∧ s.axis.pathPos = 0 ∧ BedOpen s
  ∧ (∃ u ∈ s.plan.stops, u.kind = kind ∧ 60 * u.pos = (s.axis.pathPos : Int))
  ∧ (∃ l ∈ s.plan.legs.head?, l.kind = .entry ∧ l.isTraverse = decide (e.kind = .traverse)
      ∧ l.isEnd = decide (e.kind = .segEnd))
  ∧ WithinWarn cfgW (pointHere s) ⟨0 + s.axis.offset.x, 0 + s.axis.offset.y⟩

/-- The last step of the LINE; the end of the queued path with the jet CLOSED and still CLOSING; and the PIERCE,
RESTART, JET_OFF and END stops. -/
theorem witness_EntriesEndAndStopsAreReached :
    (let s := endingW
     let sh := straightShape ⟨0, 0⟩ ⟨100000, 0⟩
     let l := { entryLeg movingW lineW with junction := 0, formerJunction := 0, delta := none }
     let x : Int := ((s.axis.pathPos / 60 : Nat) : Int)
     let step := min (max (planSpeed cfgW s.plan x) (planSpeed cfgW s.plan (x + 1)))
       (distanceAhead cfgW s.plan s.axis.pathPos)
     s.job.state = .run ∧ s.job.sub = some .moving ∧ s.config = some cfgW ∧ s.axis.frozen = false
     ∧ s.axis.stopRun = none ∧ s.axis.homing = none ∧ s.queue.recPath = [] ∧ s.queue.recBack = false
     ∧ s.jet.recovery = none ∧ s.plan.approach = none ∧ s.queue.entries = [lineW] ∧ lineW.shape = some sh
     ∧ s.plan.legs = [l] ∧ l.kind = .entry ∧ l.isEnd = false ∧ l.base = 0 ∧ l.shape = some sh ∧ sh.length = l.len
     ∧ l.cutting = lineW.kind.cutting ∧ s.axis.pathPos < 60 * l.len ∧ 0 < s.axis.speed ∧ s.queue.history.length ≤ 32
     ∧ (∀ a ∈ s.plan.anchors, 60 * a.pos = (s.axis.pathPos : Int) → a.speed ≠ 0)
     ∧ 0 < step ∧ 60 * l.len ≤ s.axis.pathPos + step
     ∧ WithinWarn cfgW sh.stop ⟨99990 + s.axis.offset.x, 0 + s.axis.offset.y⟩)
    ∧ (let s := pathDoneW .closed
       s.queue.entries = [] ∧ s.plan.legs = [] ∧ s.jet.state = .closed
       ∧ WithinWarn cfgW s.axis.setPoint ⟨0 + s.axis.offset.x, 0 + s.axis.offset.y⟩)
    ∧ (let s := pathDoneW .closing
       s.queue.entries = [] ∧ s.plan.legs = [] ∧ s.jet.state = .closing ∧ s.jet.seq = none ∧ s.axis.speed = 0)
    ∧ (let s := atStopW .pierce lineW .closed none
       Arrives s lineW .pierce ∧ s.jet.state = .closed ∧ s.lines.zReached ≠ some .pierce ∧ s.axis.zCmd ≠ .pierce)
    ∧ (let s := atStopW .restart lineW .closed (some { start := 0, method := some .stationary })
       Arrives s lineW .restart ∧ s.jet.state = .closed ∧ s.jet.contour.isSome = true ∧ s.axis.zCmd ≠ .pierce)
    ∧ Arrives (atStopW .jetOff traverseW .closing none) traverseW .jetOff
    ∧ Arrives (atStopW .segEnd endW .closed none) endW .segEnd := by
  simp only [Arrives, BedOpen, WithinWarn]
  refine ⟨?_, ?_, ?_, ?_, ?_, ?_, ?_⟩ <;> decide +kernel

/-- One minute below saturation with the valve read as open, and the count saturated. -/
theorem witness_MinuteEventCountsAndCompares :
    idleW.tables.nozzle = some (nozzleRecOf nozzleW) ∧ ({ idleW.wear with timing := true } : Wear).timing = true
    ∧ ({ idleW.wear with minutes := 999998 } : Wear).minutes < 999999
    ∧ 999999 ≤ ({ idleW.wear with minutes := 999999 } : Wear).minutes := by
  decide +kernel

end Sys2Proof.Tests
end

section
/-! PROOFS. The Segment Queue's bounds and use counts (R34, R40, R44): what each operation on the queue does to them, and
that every step keeps them (O5). -/

namespace Sys2Proof.Machine

open Sys2Proof

/-! ## The operations that change the queue -/

/-- What the invariant reads is the entries, the history and the use counts. -/
theorem QueueSound.of_reads {s t : State} (h : QueueSound s) (he : t.queue.entries = s.queue.entries)
    (hh : t.queue.history = s.queue.history) (hu : t.queue.uses = s.queue.uses) : QueueSound t where
  entries := he ▸ h.entries
  history := hh ▸ h.history
  uses k := by rw [hu, he]; exact h.uses k

theorem QueueSound.of_queue {s t : State} (h : QueueSound s) (e : t.queue = s.queue) : QueueSound t :=
  h.of_reads (by rw [e]) (by rw [e]) (by rw [e])

/-- An operation that leaves the queue alone keeps its invariant. -/
theorem Keeps.queueSound {bs : List Block} {s t : State} (k : Keeps bs s t) (hb : bs.contains .queue = false)
    (h : QueueSound s) : QueueSound t := h.of_queue (k.queue hb)

theorem queueSound_of_empty {t : State} (e : t.queue = SegQueue.empty) : QueueSound t where
  entries := by simp [e, SegQueue.empty]
  history := by simp [e, SegQueue.empty]
  uses k := by simp [e, SegQueue.empty]

/-- A use count after a change at a slot: that slot's count alone changes. -/
theorem bumpUse_get (uses : Vector Nat 8) (slot : Option Nat) (f : Nat → Nat) (k : Fin 8) :
    (bumpUse uses slot f)[k] = if slot = some k.val then f uses[k] else uses[k] := by
  cases slot with
  | none => simp [bumpUse]
  | some j => simp [bumpUse, eq_comm]

/-- What joining entries makes of the queue: they stand at its tail, and the counts, the path tail and the tail side
follow (R39, R40). -/
theorem foldl_appendEntry (es : List QueueEntry) (q : SegQueue) :
    Appended q { es.foldl appendEntry q with expected := (es.foldl appendEntry q).expected + 1 } es := by
  induction es generalizing q with
  | nil => simp [Appended]
  | cons e es ih =>
    obtain ⟨hq, hu, hp, hc⟩ := ih (appendEntry q e)
    simp only [SegQueue.mk.injEq] at hq
    obtain ⟨h1, h2, -, -, -, h6, h7, h8, h9⟩ := hq
    refine ⟨?_, fun k => ?_, hp, hc⟩
    · simp only [List.foldl_cons, h1, h2, h6, h7, h8, h9]
      simp [appendEntry]
    · have huk := hu k
      simp only [List.foldl_cons] at huk ⊢
      rw [huk]
      simp only [appendEntry, bumpUse_get, List.countP_cons, beq_iff_eq]
      split <;> omega

/-- What an acceptance makes of the queue (R33, R39, R40). -/
theorem acceptEntries_appended (es : List QueueEntry) (s : State) :
    Appended s.queue (acceptEntries es s).queue es := foldl_appendEntry es s.queue

theorem acceptEntries_queueSound {es : List QueueEntry} {s : State} (h : QueueSound s)
    (hn : s.queue.entries.length + es.length ≤ 256) : QueueSound (acceptEntries es s) := by
  obtain ⟨hq, hu, -, -⟩ := acceptEntries_appended es s
  have he : (acceptEntries es s).queue.entries = s.queue.entries ++ es := by rw [hq]
  have hh : (acceptEntries es s).queue.history = s.queue.history := by rw [hq]
  refine ⟨by simpa [he] using hn, hh ▸ h.history, fun k => ?_⟩
  rw [hu k, he, List.countP_append, h.uses k]

/-- The history never holds more than 32 entries (R44). -/
theorem pushHistory_length (l : List HistEntry) (e : HistEntry) :
    (pushHistory l e).length = min 32 (l.length + 1) := by
  unfold pushHistory
  split <;> simp <;> omega

/-- Retiring an entry changes the Segment Queue, and posts when the report flag is set. -/
theorem retireEntry_queue (e : QueueEntry) (start : Nat) (limit : Option Nat) (s : State) :
    (retireEntry e start limit s).queue = { s.queue with
      entries := s.queue.entries.tail, uses := bumpUse s.queue.uses e.slot (· - 1), progress := 0
      history := pushHistory s.queue.history (historyEntry s e start limit) } := by
  unfold retireEntry
  dsimp only
  split <;> rfl

theorem retireEntry_queueSound {e : QueueEntry} {s : State} (start : Nat) (limit : Option Nat) (h : QueueSound s)
    (he : s.queueHead = some e) : QueueSound (retireEntry e start limit s) := by
  obtain ⟨es, hes⟩ : ∃ es, s.queue.entries = e :: es := List.head?_eq_some_iff.mp he
  have hlen := h.entries
  rw [hes, List.length_cons] at hlen
  constructor
  · rw [retireEntry_queue, hes]
    exact Nat.le_of_succ_le hlen
  · rw [retireEntry_queue, pushHistory_length]
    exact Nat.min_le_left ..
  · intro k
    have hk := h.uses k
    simp only [hes, List.countP_cons, beq_iff_eq] at hk
    simp only [retireEntry_queue, hes, List.tail_cons, bumpUse_get]
    split at hk <;> simp_all

theorem retireHead_queueSound {s : State} (limit : Nat) (h : QueueSound s) : QueueSound (retireHead limit s) := by
  unfold retireHead
  split
  · exact h
  · next e he =>
    dsimp only
    split
    all_goals exact (retireEntry_queueSound _ _ h he).of_queue rfl

theorem flush_queueSound (s : State) : QueueSound (flush s) := queueSound_of_empty rfl

/-! ## Motion along the path -/

theorem leaveRecovery_queueSound {s : State} (h : QueueSound s) : QueueSound (leaveRecovery s) := by
  unfold leaveRecovery
  dsimp only
  repeat' split
  all_goals exact h.of_reads rfl rfl rfl

theorem finishLeg_queueSound {s : State} (l : Leg) (h : QueueSound s) : QueueSound (finishLeg l s) := by
  unfold finishLeg
  extract_lets former p a s1
  have h1 : QueueSound s1 := h.of_queue rfl
  cases l.kind with
  | approach => exact h1.of_queue rfl
  | backtrack => exact h1
  | recut => exact leaveRecovery_queueSound h1
  | entry => exact retireHead_queueSound _ h1

theorem crossLegs_queueSound {s : State} (n : Nat) (h : QueueSound s) : QueueSound (crossLegs n s) := by
  induction n generalizing s with
  | zero => exact h
  | succ n ih =>
    unfold crossLegs
    repeat' split
    · exact h
    · exact ih (finishLeg_queueSound _ h)
    · exact h

theorem takeProgress_queueSound {s : State} (h : QueueSound s) : QueueSound (takeProgress s) := by
  unfold takeProgress
  repeat' split
  all_goals exact h.of_reads rfl rfl rfl

theorem takeStep_queueSound {s : State} (h : QueueSound s) : QueueSound (takeStep s) := by
  unfold takeStep
  extract_lets s1
  have h1 : QueueSound s1 := crossLegs_queueSound _ h
  refine takeProgress_queueSound ?_
  split
  · exact h1
  · exact (pathPoint_keeps s1).queueSound rfl h1

theorem pathPeriod_queueSound {s : State} (h : QueueSound s) : QueueSound (pathPeriod s) := by
  unfold pathPeriod
  split
  · split
    · exact finishLeg_queueSound _ ((beginTraverse_keeps ..).queueSound rfl h)
    · extract_lets step a s1 s2
      have h1 : QueueSound s1 := h.of_queue rfl
      have h2 : QueueSound s2 := by
        unfold s2
        split
        · exact (beginTraverse_keeps ..).queueSound rfl h1
        · exact h1
      split
      · exact (pathPoint_keeps _).queueSound rfl h1
      · exact (recoveryPassed_keeps _).queueSound rfl (takeStep_queueSound h2)
  · exact h.of_queue rfl

theorem motion_queueSound {s : State} (h : QueueSound s) : QueueSound (motion s) := by
  unfold motion
  split
  · exact h.of_queue rfl
  · split
    · exact (homingSeek_keeps _).queueSound rfl ((stopRunPeriod_keeps ..).queueSound rfl h)
    · split
      · exact (homingPeriod_keeps ..).queueSound rfl h
      · cases s.job.state
        case run | hold | aborting => exact pathPeriod_queueSound h
        all_goals exact h.of_queue rfl

/-! ## Faults, trips and the transitions that wait for standstill -/

theorem enterFault_queueSound (k : FaultKind) (detail : Nat) (s : State) : QueueSound (enterFault k detail s) := by
  unfold enterFault
  extract_lets s1 s2 s3 s4 s5
  have h3 : QueueSound s3 := (clearJetRecords_keeps _).queueSound rfl (flush_queueSound s2)
  have h4 : QueueSound s4 := by
    unfold s4
    split
    · exact (levelRequest_keeps ..).queueSound rfl h3
    · exact (orderStandby_keeps _).queueSound rfl h3
  exact (clearAtRest_keeps _).queueSound rfl ((setFault_keeps ..).queueSound rfl (h4.of_queue rfl))

theorem raiseFault_queueSound {s : State} (k : FaultKind) (detail : Nat) (h : QueueSound s) :
    QueueSound (raiseFault k detail s) := by
  unfold raiseFault
  cases s.job.state
  case unconfigured => exact h
  case fault => exact (countInFault_keeps s).queueSound rfl h
  case trip => exact (countSecondary_keeps s).queueSound rfl h
  all_goals exact enterFault_queueSound k detail s

theorem enterTrip_queueSound (k : FaultKind) (detail : Nat) (s : State) : QueueSound (enterTrip k detail s) := by
  unfold enterTrip
  extract_lets s1 s2 s3 s4
  have h2 : QueueSound s2 := (clearJetRecords_keeps _).queueSound rfl (flush_queueSound _)
  have h3 : QueueSound s3 := (orderTrip_keeps _).queueSound rfl h2
  exact (setFault_keeps ..).queueSound rfl (h3.of_queue rfl)

theorem raiseTrip_queueSound {s : State} (k : FaultKind) (detail : Nat) (h : QueueSound s) :
    QueueSound (raiseTrip k detail s) := by
  unfold raiseTrip
  split
  · exact (countSecondary_keeps s).queueSound rfl h
  · exact enterTrip_queueSound k detail s

theorem retireEnd_queueSound {e : QueueEntry} {s : State} (h : QueueSound s) (he : s.queueHead = some e) :
    QueueSound (retireEnd e s) :=
  (zCommand_keeps ..).queueSound rfl ((planCore_keeps _).queueSound rfl ((setPlan_keeps ..).queueSound rfl
    ((setState_keeps ..).queueSound rfl ((endContour_keeps _).queueSound rfl (retireEntry_queueSound 0 none h he)))))

theorem runSettle_queueSound {s : State} (h : QueueSound s) : QueueSound (runSettle s) := by
  unfold runSettle
  split
  · split
    · exact retireEnd_queueSound h ‹_›
    · exact h
  · split
    · exact (setState_keeps ..).queueSound rfl h
    · exact h

theorem abortSettle_queueSound {s : State} (h : QueueSound s) : QueueSound (abortSettle s) := by
  unfold abortSettle
  split
  · exact (zCommand_keeps ..).queueSound rfl ((setState_keeps ..).queueSound rfl
      ((clearJetRecords_keeps _).queueSound rfl (flush_queueSound s)))
  · exact h

theorem settle_queueSound {s : State} (h : QueueSound s) : QueueSound (settle s) := by
  unfold settle
  split
  · cases s.job.state
    case hold => exact (holdSettle_keeps s).queueSound rfl h
    case aborting => exact abortSettle_queueSound h
    case run => exact runSettle_queueSound h
    all_goals exact h
  · exact h

theorem done_queueSound {s : State} (h : QueueSound s) : QueueSound (done s) :=
  (lampDerive_keeps _).queueSound rfl (settle_queueSound h)

theorem wrapUp_queueSound {s : State} (h : QueueSound s) : QueueSound (wrapUp s) :=
  ((lampDerive_keeps s).queueSound rfl h).of_queue rfl

theorem pumpDone_queueSound {s : State} (h : QueueSound s) : QueueSound (pumpDone s) :=
  wrapUp_queueSound (settle_queueSound ((seqAdvance_keeps s).queueSound rfl h))

/-! ## One interpolation period -/

theorem backtrackDone_queueSound {s : State} (h : QueueSound s) : QueueSound (backtrackDone s) :=
  (planCore_keeps _).queueSound rfl (h.of_reads rfl rfl rfl)

theorem arrive_queueSound {s : State} (h : QueueSound s) : QueueSound (arrive s) := by
  unfold arrive
  split
  · cases s.job.state
    case run =>
      dsimp only
      have h1 : QueueSound (recoveryAtStop (commitHere s)) :=
        (recoveryAtStop_keeps _).queueSound rfl ((commitHere_keeps s).queueSound rfl h)
      split
      · exact (arriveMoving_keeps _).queueSound rfl h1
      · split
        · exact (proceed_keeps _).queueSound rfl (backtrackDone_queueSound h1)
        · exact h1
      · exact (arrivePiercing_keeps _).queueSound rfl h1
      · exact h1
    case hold =>
      exact (arriveHolding_keeps _).queueSound rfl ((recoveryInHold_keeps _).queueSound rfl
        ((commitHere_keeps s).queueSound rfl h))
    all_goals exact h
  · exact h

theorem followCheck_queueSound {s : State} (h : QueueSound s) : QueueSound (followCheck s) := by
  unfold followCheck
  extract_lets c ex ey excursion count detail a s1
  have h1 : QueueSound s1 := h.of_queue rfl
  split
  · generalize detail = d
    cases d with
    | some d => exact raiseFault_queueSound _ _ h1
    | none => exact h1
  · exact h

theorem period_queueSound {s : State} (fb : Point) (homeX homeY : Bool) (h : QueueSound s) :
    QueueSound (period fb homeX homeY s) :=
  settle_queueSound (arrive_queueSound ((closeWatch_keeps _).queueSound rfl (followCheck_queueSound (motion_queueSound
    ((sample_keeps ..).queueSound rfl h)))))

/-! ## Answers -/

theorem length_le_of_freeCheck {s : State} {n : Nat} (hs : QueueSound s) (h : freeCheck s n = none) :
    s.queue.entries.length + n ≤ 256 := by
  have := hs.entries
  unfold freeCheck State.free at h
  split at h
  · omega
  · cases h

theorem afterAppend_queueSound {s : State} (h : QueueSound s) : QueueSound (afterAppend s) := by
  unfold afterAppend
  split
  · exact done_queueSound ((proceed_keeps _).queueSound rfl ((planCore_keeps _).queueSound rfl
      ((placeApproach_keeps s).queueSound rfl h)))
  · exact done_queueSound ((replan_keeps s).queueSound rfl h)

theorem answerSegment_queueSound {s : State} (r : SegmentReq) (h : QueueSound s) :
    QueueSound (answerSegment r s).state := by
  unfold answerSegment
  split
  · split
    · exact h
    · exact h
    · next hr _ =>
      have hfree : freeCheck s 1 = none := by
        simp only [segmentRefusal, Option.or_eq_none_iff] at hr
        exact hr.2.1
      exact afterAppend_queueSound (acceptEntries_queueSound h (length_le_of_freeCheck h hfree))
  · exact h

/-- An accepted Place has found room for its entries (R65, R78). -/
theorem placeOutcome_free {s : State} {r : PlaceReq} {c : Compensation} {es : List QueueEntry}
    (h : placeOutcome s r = .ok (c, es)) : freeCheck s es.length = none := by
  unfold placeOutcome at h
  repeat' split at h
  all_goals simp_all

theorem answerPlace_queueSound {s : State} (r : PlaceReq) (h : QueueSound s) :
    QueueSound (answerPlace r s).state := by
  unfold answerPlace
  split
  · split
    · exact h
    · next hr => exact afterAppend_queueSound (acceptEntries_queueSound h (length_le_of_freeCheck h (placeOutcome_free hr)))
  · exact h

theorem driveCheck_queueSound {s : State} (h : QueueSound s) : QueueSound (driveCheck s) := by
  unfold driveCheck
  repeat' split
  · exact raiseFault_queueSound _ _ h
  · exact h
  · exact h

theorem firstConfigured_queueSound {s : State} (h : QueueSound s) : QueueSound (firstConfigured s) := by
  unfold firstConfigured
  extract_lets s1 j s2
  have h1 : QueueSound s1 := (deriveClosed_keeps _).queueSound rfl ((setState_keeps ..).queueSound rfl h)
  have h2 : QueueSound s2 := by
    unfold s2
    split
    · exact h1.of_queue rfl
    · exact h1
  exact driveCheck_queueSound ((planCore_keeps _).queueSound rfl ((zTimerOnConfigured_keeps _).queueSound rfl h2))

theorem replacedConfig_queueSound {s : State} (old : ConfigRec) (h : QueueSound s) :
    QueueSound (replacedConfig old s) :=
  (planCore_keeps _).queueSound rfl ((pumpConfigured_keeps ..).queueSound rfl ((deriveClosed_keeps s).queueSound rfl h))

theorem answerConfigure_queueSound {s : State} (r : ConfigRec) (h : QueueSound s) :
    QueueSound (answerConfigure r s).state := by
  unfold answerConfigure
  split
  · split
    · exact h
    · refine done_queueSound ?_
      split
      · exact firstConfigured_queueSound (h.of_queue rfl)
      · exact replacedConfig_queueSound _ (h.of_queue rfl)
  · exact h

theorem answerRun_queueSound {s : State} (h : QueueSound s) : QueueSound (answerRun s).state := by
  unfold answerRun
  cases s.job.state
  case idle =>
    dsimp only
    split
    · exact done_queueSound ((proceed_keeps _).queueSound rfl ((planCore_keeps _).queueSound rfl
        ((placeApproach_keeps _).queueSound rfl (h.of_queue rfl))))
    · exact h
  all_goals exact h

theorem answerHold_queueSound {s : State} (h : QueueSound s) : QueueSound (answerHold s).state := by
  unfold answerHold
  cases s.job.state
  case run =>
    dsimp only
    split
    · exact h.of_queue rfl
    · exact done_queueSound ((takeHold_keeps s).queueSound rfl h)
  all_goals exact h

theorem recoveryStart_queueSound {s : State} (h : QueueSound s) : QueueSound (recoveryStart s) := by
  unfold recoveryStart
  dsimp only
  repeat' split
  all_goals exact h.of_reads rfl rfl rfl

theorem takeResume_queueSound {s : State} (h : QueueSound s) : QueueSound (takeResume s) := by
  unfold takeResume
  extract_lets abrasive p s1 s2
  have h1 : QueueSound s1 := (clearHold_keeps _).queueSound rfl (h.of_queue rfl)
  have h2 : QueueSound s2 := by
    unfold s2
    split
    · exact recoveryStart_queueSound h1
    · exact h1
  exact done_queueSound ((proceed_keeps _).queueSound rfl ((planCore_keeps _).queueSound rfl
    ((placeApproach_keeps _).queueSound rfl h2)))

theorem answerResume_queueSound {s : State} (h : QueueSound s) : QueueSound (answerResume s).state := by
  unfold answerResume
  cases s.job.state
  case hold =>
    dsimp only
    repeat' split
    · exact h
    · exact takeResume_queueSound h
    · exact h
  all_goals exact h

theorem answerStop_queueSound {s : State} (h : QueueSound s) : QueueSound (answerStop s).state := by
  unfold answerStop
  cases s.job.state
  case idle => exact done_queueSound ((flush_queueSound s).of_queue rfl)
  case homing | run | hold => exact done_queueSound ((enterAborting_keeps s).queueSound rfl h)
  all_goals exact h

theorem takeClear_queueSound {s : State} (h : QueueSound s) : QueueSound (takeClear s) := by
  unfold takeClear
  extract_lets s1 j a s2
  have h2 : QueueSound s2 := ((setState_keeps ..).queueSound rfl ((setFault_keeps ..).queueSound rfl h)).of_queue rfl
  refine done_queueSound ((planCore_keeps _).queueSound rfl ?_)
  split
  · exact h2
  · exact (clearAfterStop_keeps _).queueSound rfl h2

theorem answerClear_queueSound {s : State} (h : QueueSound s) : QueueSound (answerClear s).state := by
  unfold answerClear
  cases s.job.state
  case fault =>
    dsimp only
    repeat' split
    · exact h
    · exact h
    · exact takeClear_queueSound h
    · exact takeClear_queueSound h
  all_goals exact h

theorem answerReference_queueSound {s : State} (h : QueueSound s) : QueueSound (answerReference s).state := by
  unfold answerReference
  cases s.job.state
  case idle =>
    exact done_queueSound ((homingSeek_keeps _).queueSound rfl ((planCore_keeps _).queueSound rfl
      ((zCommand_keeps ..).queueSound rfl ((setAxis_keeps ..).queueSound rfl ((setState_keeps ..).queueSound rfl
        (h.of_queue rfl))))))
  all_goals exact h

theorem answerPressure_queueSound {s : State} (level slot : Nat) (h : QueueSound s) :
    QueueSound (answerPressure level slot s).state := by
  unfold answerPressure
  repeat' split
  · exact h
  · exact (levelRequest_keeps ..).queueSound rfl h
  · exact h

theorem takeOverride_queueSound {s : State} (percent : Nat) (h : QueueSound s) :
    QueueSound (takeOverride percent s) := by
  unfold takeOverride
  extract_lets j s1
  have h1 : QueueSound s1 := h.of_queue rfl
  cases s.job.state
  case run | hold => exact done_queueSound ((overridePlan_keeps ..).queueSound rfl h1)
  all_goals exact h1

theorem answerMaterial_queueSound {s : State} (r : MaterialReq) (h : QueueSound s) :
    QueueSound (answerMaterial r s).state := by
  unfold answerMaterial
  repeat' split
  all_goals exact h.of_queue rfl

theorem answerTemplate_queueSound {s : State} (r : TemplateReq) (h : QueueSound s) :
    QueueSound (answerTemplate r s).state := by
  unfold answerTemplate
  repeat' split
  all_goals exact h.of_queue rfl

theorem answerNozzle_queueSound {s : State} (r : NozzleReq) (h : QueueSound s) :
    QueueSound (answerNozzle r s).state := by
  unfold answerNozzle
  repeat' split
  · exact h
  · exact (nozzleAccepted_keeps ..).queueSound rfl (h.of_queue rfl)
  · exact h

theorem warmReset_queueSound (s : State) : QueueSound (warmReset s) := by
  unfold warmReset
  extract_lets s1 s2
  have h1 : QueueSound s1 :=
    (warmJet_keeps _).queueSound rfl ((warmJob_keeps _).queueSound rfl (flush_queueSound (warmAxis s)))
  exact ((lampDerive_keeps _).queueSound rfl ((deriveClosed_keeps _).queueSound rfl ((planCore_keeps _).queueSound rfl
    ((warmZ_keeps _).queueSound rfl ((warmPump_keeps _).queueSound rfl h1))))).of_queue rfl

theorem answerRestart_queueSound {s : State} (h : QueueSound s) : QueueSound (answerRestart s).state := by
  unfold answerRestart
  split
  · exact h
  · exact warmReset_queueSound s

/-- Whatever the owner of a request answers, the queue stays sound. -/
theorem answerOf_queueSound {s : State} (r : Request) (h : QueueSound s) : QueueSound (answerOf r s).state := by
  cases r with
  | configure r => exact answerConfigure_queueSound r h
  | material r => exact answerMaterial_queueSound r h
  | nozzle r => exact answerNozzle_queueSound r h
  | template r => exact answerTemplate_queueSound r h
  | segment r => exact answerSegment_queueSound r h
  | place r => exact answerPlace_queueSound r h
  | run => exact answerRun_queueSound h
  | hold => exact answerHold_queueSound h
  | resume => exact answerResume_queueSound h
  | stop => exact answerStop_queueSound h
  | clear => exact answerClear_queueSound h
  | reference => exact answerReference_queueSound h
  | pressure level slot => exact answerPressure_queueSound level slot h
  | override percent => exact takeOverride_queueSound percent h
  | query => exact h
  | restart => exact answerRestart_queueSound h

/-! ## Requests and frames -/

theorem deliver_queueSound {a : Answer} (tag : Byte) (kind : Nat) (h : QueueSound a.state) :
    QueueSound (deliver tag kind a) := by
  rw [deliver_eq]
  exact h.of_queue rfl

theorem serve_queueSound {s : State} (tag : Byte) (kind : Nat) (answer : State → Answer) (h : QueueSound s)
    (ha : QueueSound (answer s).state) : QueueSound (serve tag kind answer s) := by
  unfold serve
  split
  · exact (deliver_queueSound tag kind ha).of_queue rfl
  · exact h.of_queue rfl

theorem tripsAfterReset_queueSound {s : State} (h : QueueSound s) : QueueSound (tripsAfterReset s) := by
  unfold tripsAfterReset
  generalize activeTrips s.lines = ks
  induction ks generalizing s with
  | nil => exact h
  | cons k ks ih => exact ih (raiseTrip_queueSound k 0 h)

theorem restartWithRoom_queueSound {s : State} (tag : Byte) (h : QueueSound s) :
    QueueSound (restartWithRoom tag s) := by
  unfold restartWithRoom
  extract_lets a s1
  have h1 : QueueSound s1 := deliver_queueSound tag 0x10 (answerRestart_queueSound h)
  split
  · exact (lampDerive_keeps _).queueSound rfl (tripsAfterReset_queueSound (driveCheck_queueSound (h1.of_queue rfl)))
  · exact h1

theorem frameDone_queueSound {s : State} (kind : Nat) (tag : Byte) (payload : List Byte) (h : QueueSound s) :
    QueueSound (frameDone kind tag payload s) := by
  unfold frameDone
  repeat' split
  · exact deliver_queueSound tag kind h
  · exact restartWithRoom_queueSound tag h
  · exact deliver_queueSound tag kind (answerOf_queueSound _ h)
  · exact deliver_queueSound tag kind h
  · exact deliver_queueSound tag kind h
  · exact h.of_queue rfl

theorem takeByte_queueSound {s : State} (b : Byte) (h : QueueSound s) : QueueSound (takeByte b s) := by
  unfold takeByte
  cases s.link.phase with
  | hunt => dsimp only; split <;> exact h.of_queue rfl
  | sync => dsimp only; repeat' split
            all_goals exact h.of_queue rfl
  | header => dsimp only [headerByte]; repeat' split
              all_goals exact h.of_queue rfl
  | payload => exact h.of_queue rfl
  | check =>
    dsimp only [checkByte]
    repeat' split
    · exact h.of_queue rfl
    · exact frameDone_queueSound _ _ _ (h.of_queue rfl)
    · exact h.of_queue rfl

/-! ## Events -/

theorem homingTimedOut_queueSound {s : State} (h : QueueSound s) : QueueSound (homingTimedOut s) := by
  unfold homingTimedOut
  repeat' split
  · exact h
  · exact h
  · exact raiseFault_queueSound _ _ (h.of_queue rfl)

theorem zTimedOut_queueSound {s : State} (h : QueueSound s) : QueueSound (zTimedOut s) := by
  unfold zTimedOut
  dsimp only
  repeat' split
  · exact h
  · exact h.of_queue rfl
  · exact raiseFault_queueSound _ _ (h.of_queue rfl)

theorem settleExpiry_queueSound {s : State} (h : QueueSound s) : QueueSound (settleExpiry s) := by
  unfold settleExpiry
  split
  · exact done_queueSound ((endPreparing_keeps s).queueSound rfl h)
  · exact h

theorem leadExpiry_queueSound {s : State} (h : QueueSound s) : QueueSound (leadExpiry s) := by
  unfold leadExpiry
  split
  · exact done_queueSound ((openValve_keeps s).queueSound rfl h)
  · exact h

theorem dwellExpiry_queueSound {s : State} (h : QueueSound s) : QueueSound (dwellExpiry s) := by
  unfold dwellExpiry
  split
  · exact done_queueSound ((enterJetRamping_keeps s).queueSound rfl h)
  · exact h

theorem switchActive_queueSound {s : State} (h : QueueSound s) : QueueSound (switchActive s) := by
  unfold switchActive
  dsimp only
  split
  · exact done_queueSound ((jetClosedNow_keeps _).queueSound rfl (h.of_queue rfl))
  · exact h.of_queue rfl

theorem valveTimedOut_queueSound {s : State} (h : QueueSound s) : QueueSound (valveTimedOut s) := by
  unfold valveTimedOut
  split
  · refine done_queueSound ?_
    have h1 : QueueSound (s.setJet { s.jet with valveTimer := none }) := h.of_queue rfl
    unfold valveCondition
    repeat' split
    all_goals first
      | exact raiseFault_queueSound _ _ h1
      | exact raiseTrip_queueSound _ _ h1
      | exact h1
  · exact h

theorem windowExpiry_queueSound {s : State} (h : QueueSound s) : QueueSound (windowExpiry s) := by
  unfold windowExpiry
  split
  · refine done_queueSound ?_
    unfold abrasiveLoss
    split
    · exact raiseFault_queueSound _ _ (h.of_queue rfl)
    · exact (raiseHold_keeps ..).queueSound rfl (h.of_queue rfl)
  · exact h

theorem runningLost_queueSound {s : State} (h : QueueSound s) : QueueSound (runningLost s) := by
  unfold runningLost
  split
  · exact raiseFault_queueSound _ _ h
  · exact (enterStarting_keeps ..).queueSound rfl h

theorem startExpiry_queueSound {s : State} (h : QueueSound s) : QueueSound (startExpiry s) := by
  unfold startExpiry
  split
  · exact pumpDone_queueSound (raiseFault_queueSound _ _ ((pumpStop_keeps s).queueSound rfl h))
  · exact h

theorem rampExpiry_queueSound {s : State} (h : QueueSound s) : QueueSound (rampExpiry s) := by
  unfold rampExpiry
  split
  · exact pumpDone_queueSound (raiseFault_queueSound _ _ ((pumpStop_keeps s).queueSound rfl h))
  · exact h

theorem bandExpiry_queueSound {s : State} (h : QueueSound s) : QueueSound (bandExpiry s) := by
  unfold bandExpiry
  split
  · dsimp only
    split
    · exact pumpDone_queueSound (raiseFault_queueSound _ _ (h.of_queue rfl))
    · exact pumpDone_queueSound ((enterRamping_keeps ..).queueSound rfl (h.of_queue rfl))
  · exact h

theorem takeReading_queueSound {s : State} (h : QueueSound s) : QueueSound (takeReading s) := by
  unfold takeReading
  cases s.pump.state
  case ramping =>
    dsimp only
    split
    · exact pumpDone_queueSound ((rampEnds_keeps s).queueSound rfl h)
    · exact h
  case steady => exact (steadyReading_keeps s).queueSound rfl h
  all_goals exact h

theorem standbyExpiry_queueSound {s : State} (h : QueueSound s) : QueueSound (standbyExpiry s) := by
  unfold standbyExpiry
  split
  · exact pumpDone_queueSound ((levelRequest_keeps ..).queueSound rfl (h.of_queue rfl))
  · exact h

theorem offExpiry_queueSound {s : State} (h : QueueSound s) : QueueSound (offExpiry s) := by
  unfold offExpiry
  split
  · exact pumpDone_queueSound ((levelRequest_keeps ..).queueSound rfl (h.of_queue rfl))
  · exact h

theorem gapExpiry_queueSound {s : State} (h : QueueSound s) : QueueSound (gapExpiry s) := by
  unfold gapExpiry
  split <;> exact h.of_queue rfl

theorem minuteReached_queueSound {s : State} (h : QueueSound s) : QueueSound (minuteReached s) := by
  unfold minuteReached
  repeat' split
  · exact (minuteRise_keeps ..).queueSound rfl h
  · exact h
  · exact h

theorem wearMs_queueSound {s : State} (h : QueueSound s) : QueueSound (wearMs s) := by
  unfold wearMs
  repeat' split
  all_goals first
    | exact (minuteRise_keeps ..).queueSound rfl h
    | exact h.of_queue rfl

/-- A millisecond of the part's own time leaves the queue alone. -/
theorem tick_queueSound {s : State} (h : QueueSound s) : QueueSound (tick s) := by
  unfold tick
  extract_lets j l s1
  have h1 : QueueSound s1 := h.of_queue rfl
  have h2 : QueueSound ((s1.setJet (jetMs s1.jet)).setPump (pumpMs s1.pump)) := h1.of_queue rfl
  exact (wearMs_queueSound h2).of_queue rfl

/-! ## Every command -/

/-- A command that is served as a request keeps the queue sound when its answer does. -/
theorem next_serve_queueSound {s t : State} {tag : Byte} {kind : Nat} {answer : State → Answer} (h : QueueSound s)
    (ha : QueueSound (answer s).state)
    (e : (Host.Outcome.next (serve tag kind answer s) : Host.Outcome State Fault Refusal) = .next t) :
    QueueSound t := by
  cases e
  exact serve_queueSound tag kind answer h ha

theorem exec_queueSound {c : Instr} {s t : State} (h : QueueSound s) (e : exec c s = .next t) : QueueSound t := by
  cases c with
  | configure tag r => exact next_serve_queueSound h (answerConfigure_queueSound r h) e
  | material tag r => exact next_serve_queueSound h (answerMaterial_queueSound r h) e
  | nozzle tag r => exact next_serve_queueSound h (answerNozzle_queueSound r h) e
  | template tag r => exact next_serve_queueSound h (answerTemplate_queueSound r h) e
  | segment tag r => exact next_serve_queueSound h (answerSegment_queueSound r h) e
  | place tag r => exact next_serve_queueSound h (answerPlace_queueSound r h) e
  | run tag => exact next_serve_queueSound h (answerRun_queueSound h) e
  | hold tag => exact next_serve_queueSound h (answerHold_queueSound h) e
  | resume tag => exact next_serve_queueSound h (answerResume_queueSound h) e
  | stop tag => exact next_serve_queueSound h (answerStop_queueSound h) e
  | clear tag => exact next_serve_queueSound h (answerClear_queueSound h) e
  | reference tag => exact next_serve_queueSound h (answerReference_queueSound h) e
  | pressure tag level slot => exact next_serve_queueSound h (answerPressure_queueSound level slot h) e
  | override tag percent => exact next_serve_queueSound h (takeOverride_queueSound percent h) e
  | query tag => exact next_serve_queueSound (answer := answerQuery) h h e
  | restart tag =>
    cases e
    refine QueueSound.of_queue (s := if s.hasRoom then restartWithRoom tag s else discardFrame s) ?_ rfl
    split
    · exact restartWithRoom_queueSound tag h
    · exact h.of_queue rfl
  | receivedByte b => cases e; exact (takeByte_queueSound b h).of_queue rfl
  | gapTimerExpiry => cases e; exact gapExpiry_queueSound h
  | transmitComplete => cases e; exact h.of_queue rfl
  | powerOnReset => cases e; exact tripsAfterReset_queueSound (queueSound_of_empty rfl)
  | tripInputActive k => cases e; exact wrapUp_queueSound (raiseTrip_queueSound _ _ (h.of_queue rfl))
  | tripInputInactive k => cases e; exact h.of_queue rfl
  | residencyExpiry => cases e; exact h.of_queue rfl
  | interpolationPeriod fbX fbY homeX homeY => cases e; exact wrapUp_queueSound (period_queueSound _ _ _ h)
  | homingTimeout => cases e; exact wrapUp_queueSound (homingTimedOut_queueSound h)
  | zReachedChange z =>
    cases e
    exact wrapUp_queueSound (settle_queueSound ((seqAdvance_keeps _).queueSound rfl ((homingSeek_keeps _).queueSound rfl
      ((zReach_keeps z s).queueSound rfl h))))
  | zTimeout => cases e; exact wrapUp_queueSound (zTimedOut_queueSound h)
  | driveReadyInactive a =>
    cases e
    refine wrapUp_queueSound ?_
    split
    · exact raiseFault_queueSound _ _ (h.of_queue rfl)
    · exact h.of_queue rfl
  | driveReadyActive a => cases e; exact h.of_queue rfl
  | settleTimerExpiry => cases e; exact (settleExpiry_queueSound h).of_queue rfl
  | leadTimerExpiry => cases e; exact (leadExpiry_queueSound h).of_queue rfl
  | dwellTimerExpiry => cases e; exact (dwellExpiry_queueSound h).of_queue rfl
  | valveSwitchActive => cases e; exact (switchActive_queueSound h).of_queue rfl
  | valveSwitchInactive => cases e; exact ((switchInactive_keeps s).queueSound rfl h).of_queue rfl
  | valveTimerExpiry => cases e; exact (valveTimedOut_queueSound h).of_queue rfl
  | abrasivePulse =>
    cases e
    split
    · exact h.of_queue rfl
    · exact h
  | abrasiveWindowExpiry => cases e; exact (windowExpiry_queueSound h).of_queue rfl
  | pumpRunningActive =>
    cases e
    split
    · exact pumpDone_queueSound ((startEnds_keeps _).queueSound rfl (h.of_queue rfl))
    · exact h.of_queue rfl
  | pumpRunningInactive =>
    cases e
    split
    · exact pumpDone_queueSound (runningLost_queueSound (h.of_queue rfl))
    · exact h.of_queue rfl
  | startTimerExpiry => cases e; exact startExpiry_queueSound h
  | transducerReading mpa => cases e; exact takeReading_queueSound (h.of_queue rfl)
  | rampTimerExpiry => cases e; exact rampExpiry_queueSound h
  | bandTimerExpiry => cases e; exact bandExpiry_queueSound h
  | standbyTimerExpiry => cases e; exact standbyExpiry_queueSound h
  | offTimerExpiry => cases e; exact offExpiry_queueSound h
  | guardOpen z => cases e; exact (done_queueSound ((guardOpens_keeps z s).queueSound rfl h)).of_queue rfl
  | guardClosed z => cases e; exact (done_queueSound ((guardCloses_keeps z s).queueSound rfl h)).of_queue rfl
  | minuteEvent => cases e; exact (minuteReached_queueSound h).of_queue rfl

/-- Settles O5: the front command, a timer that has run out, or a millisecond of the part's own time keeps the queue
sound. -/
theorem queueBoundsAndUseCountsKept : Obligations.QueueBoundsAndUseCountsKept := by
  intro s t h e
  unfold step at e
  split at e
  · next c rest _ => exact exec_queueSound (h.of_queue (t := s.setPending rest) rfl) e
  · unfold idleStep at e
    split at e
    · exact exec_queueSound h e
    · cases e
      exact tick_queueSound h

end Sys2Proof.Machine
end

section
/-! PROOFS. Rules of the shared operations, said once for each: what they post, what controller state, Z command and jet
they leave, and what the END of a job does. -/

namespace Sys2Proof.Machine

open Sys2Proof

/-! ## Posts and lamps -/

/-- From `s` to `t` the Link Port has changed by the posts of `l`, in order (R175). -/
def Posts (s t : State) (l : List Report) : Prop :=
  t.link = { s.link with reports := l.foldl postInto s.link.reports }

theorem posts_nil {s t : State} (h : t.link = s.link) : Posts s t [] := h

theorem Posts.trans {s t u : State} {l m : List Report} (h : Posts s t l) (g : Posts t u m) : Posts s u (l ++ m) := by
  unfold Posts at *
  rw [g, h, List.foldl_append]

theorem post_posts (r : Report) (s : State) : Posts s (post r s) [r] := rfl

/-- The link after a command that ends by looking at the transmitter (R175, R176). -/
theorem Posts.link_kick {s t : State} {l : List Report} (h : Posts s t l) :
    (kick t).link = linkAfter s.link l none := by
  unfold Posts at h
  simp [linkAfter, h]

/-- The lamps are all that deriving them changes of the Zone Unit (R163). -/
theorem lampDerive_zone (s : State) : (lampDerive s).zone = withLampsOf (lampDerive s) s := by
  unfold lampDerive
  dsimp only
  split <;> rfl

/-- Deriving the lamps posts ZONE reports alone (R163, R164). -/
theorem lampDerive_posts (s : State) : ∃ l, Posts s (lampDerive s) l ∧ ∀ r ∈ l, r.kindByte = 0x95 := by
  unfold lampDerive
  dsimp only
  split
  · exact ⟨[], rfl, by simp⟩
  · exact ⟨[_], rfl, by simp [Report.kindByte]⟩

/-- A state that keeps all but the queue, the plan and the zones is `s` with those replaced, and the link. -/
theorem Keeps.eq_of_queue_plan_zone {s t : State} (k : Keeps [.queue, .plan, .zone] s t) :
    t = { s with queue := t.queue, plan := t.plan, zone := t.zone, link := t.link } := by
  obtain ⟨job, -, -, axis, jet, pump, -, wear, lines, config, tables, freeCount, pending, -⟩ := k
  cases t
  simp_all

/-! ## Controller state and head height -/

/-- The controller takes the state and the substate, whether or not it was in them already (R3). -/
theorem setState_job (st : CtrlState) (sub : Option Substate) (s : State) :
    (setState st sub s).job = { s.job with state := st, sub := sub } := by
  unfold setState
  split
  · next h => rw [← h.1, ← h.2]
  · rfl

/-- Taking a substate of RUN where it stands already changes nothing (R3). -/
theorem setState_same {st : CtrlState} {sub : Option Substate} {s : State} (h : s.job.state = st) (g : s.job.sub = sub) :
    setState st sub s = s := if_pos ⟨h, g⟩

/-- Z is commanded to the position, whatever was commanded before (R107). -/
theorem zCommand_zCmd (p : ZPos) (s : State) : (zCommand p s).axis.zCmd = p := by
  unfold zCommand
  split
  · assumption
  · split <;> rfl

/-- A Z command leaves the rest of the Axis Interface. -/
theorem zCommand_axis (p : ZPos) (s : State) :
    (zCommand p s).axis = { s.axis with
      zCmd := p, zConfirmed := (zCommand p s).axis.zConfirmed, zTimer := (zCommand p s).axis.zTimer } := by
  unfold zCommand
  split
  · next h => rw [← h]
  · split <;> rfl

/-! ## Plans -/

/-- A replan keeps the approach (R31, R92). -/
@[simp] theorem planCore_approach (s : State) : (planCore s).plan.approach = s.plan.approach := by
  unfold planCore
  split <;> rfl

/-- In RUN a plan is made. -/
theorem planCore_run {s : State} (h : s.job.state = .run) : planCore s = s.setPlan (replanned s) := by
  simp [planCore, State.plans, h]

/-- The approach of a head that needs none stays absent (R31). -/
theorem placeApproach_of_none {s : State} (h : approachFor s = none) (g : s.plan.approach = none) :
    placeApproach s = s := by
  unfold placeApproach
  split
  · rw [h, ← g]
    rfl
  · rfl

/-! ## The END of a job (R43) -/

/-- A RETIRED report is posted exactly when the report flag is set (R42, R43). -/
theorem retireEntry_posts (e : QueueEntry) (start : Nat) (limit : Option Nat) (s : State) :
    Posts s (retireEntry e start limit s) (if e.report then [.retired e.seq e.pidx e.tag] else []) := by
  unfold retireEntry
  dsimp only
  split <;> rfl

theorem retireEnd_job (e : QueueEntry) (s : State) :
    (retireEnd e s).job = { s.job with state := .idle, sub := none } := by
  unfold retireEnd
  rw [(zCommand_keeps ..).job rfl, (planCore_keeps _).job rfl, (setPlan_keeps ..).job rfl, setState_job,
    (endContour_keeps _).job rfl, (retireEntry_keeps ..).job rfl]

theorem retireEnd_queue (e : QueueEntry) (s : State) : (retireEnd e s).queue = (retireEntry e 0 none s).queue := by
  unfold retireEnd
  rw [(zCommand_keeps ..).queue rfl, (planCore_keeps _).queue rfl, (setPlan_keeps ..).queue rfl,
    (setState_keeps ..).queue rfl, (endContour_keeps _).queue rfl]

theorem retireEnd_zCmd (e : QueueEntry) (s : State) : (retireEnd e s).axis.zCmd = .clear := zCommand_zCmd ..

/-- The contour record goes, and with it a recovery still pending (R130; log entry 47). -/
theorem retireEnd_jet (e : QueueEntry) (s : State) :
    (retireEnd e s).jet =
      { s.jet with contour := none, recovery := s.jet.recovery.filter (fun r => !r.isPending) } := by
  unfold retireEnd
  rw [(zCommand_keeps ..).jet rfl, (planCore_keeps _).jet rfl, (setPlan_keeps ..).jet rfl, (setState_keeps ..).jet rfl]
  simp only [endContour, State.setJet_jet, (retireEntry_keeps ..).jet rfl]

theorem retireEnd_posts (e : QueueEntry) (s : State) :
    ∃ l, Posts s (retireEnd e s) l ∧ (e.report = true → Report.retired e.seq e.pidx e.tag ∈ l) := by
  have hk : Keeps [.job, .jet, .plan, .axis] (retireEntry e 0 none s) (retireEnd e s) :=
    (zCommand_keeps ..).comp rfl ((planCore_keeps _).comp rfl ((setPlan_keeps ..).comp rfl
      ((setState_keeps ..).comp rfl ((endContour_keeps _).comp rfl (Keeps.refl _ _)))))
  obtain ⟨m, hm⟩ := hk.posts
  exact ⟨_, (retireEntry_posts e 0 none s).trans hm, fun h => by simp [h]⟩

/-- At standstill at its END, with the jet CLOSED, a job in RUN ends (R19, R43). -/
theorem settle_retires_end {s : State} {e : QueueEntry} (hrun : s.job.state = .run) (hjet : s.jet.state = .closed)
    (he : s.queueHead = some e) (hk : e.kind = .segEnd) (hs : s.standsAtEnd = true) : settle s = retireEnd e s := by
  simp only [settle, State.jetClosed, hjet, hrun, runSettle, he, hk, hs, and_self, if_true, beq_self_eq_true]

/-- What settling leaves alone in RUN: everything, while the jet is not CLOSED, the head moves, or the queue head is no
END and something is queued. -/
theorem settle_run_eq {s : State} (hrun : s.job.state = .run)
    (h : s.jet.state ≠ .closed ∨ s.axis.speed ≠ 0 ∨ ∃ e, s.queueHead = some e ∧ e.kind ≠ .segEnd) : settle s = s := by
  unfold settle
  split
  · next hc =>
    simp only [hrun, runSettle]
    have hclosed : s.jet.state = .closed := by simpa [State.jetClosed] using hc
    rcases h with h | h | ⟨e, he, hk⟩
    · exact absurd hclosed h
    · split
      · exact if_neg (fun g => by simp [State.standsAtEnd, h] at g)
      · exact if_neg (fun g => h g.2)
    · simp [he, hk]
  · rfl

end Sys2Proof.Machine
end

section
/-! PROOFS. SEGMENT (R32 to R39): its ordered checks (O26), the entry an accepted record gives (O27), and the END that
ends the job at once (O29). -/

namespace Sys2Proof.Machine

open Sys2Proof

/-! ## The statements' ordered checks and the model's -/

/-- The model's list of checks names the same first failure as a list of rules. -/
def ChecksAgree (rules : List (Nat × Prop)) (checks : List (Nat × Bool)) : Prop :=
  (∀ n, FirstFail rules n → firstFault checks = some n) ∧ (AllHold rules → firstFault checks = none)

theorem checksAgree_nil : ChecksAgree [] [] := ⟨fun _ h => h.elim, fun _ => rfl⟩

theorem ChecksAgree.cons {rules : List (Nat × Prop)} {checks : List (Nat × Bool)} {k : Nat} {ok : Prop} {b : Bool}
    (h : ok ↔ b = true) (g : ChecksAgree rules checks) : ChecksAgree ((k, ok) :: rules) ((k, b) :: checks) := by
  obtain ⟨hf, ha⟩ := g
  constructor
  · rintro n (⟨hn, rfl⟩ | ⟨hok, hn⟩)
    · simp [firstFault, show b = false by simpa [h] using hn]
    · simp [firstFault, h.mp hok, hf n hn]
  · rintro ⟨hok, hall⟩
    simp [firstFault, h.mp hok, ha hall]

/-- A rule that says nothing here has no check. -/
theorem ChecksAgree.skip {rules : List (Nat × Prop)} {checks : List (Nat × Bool)} {k : Nat} {ok : Prop} (h : ok)
    (g : ChecksAgree rules checks) : ChecksAgree ((k, ok) :: rules) checks := by
  obtain ⟨hf, ha⟩ := g
  constructor
  · rintro n (⟨hn, -⟩ | ⟨-, hn⟩)
    · exact absurd h hn
    · exact hf n hn
  · exact fun ⟨_, hall⟩ => ha hall

theorem within_iff {lo hi n : Nat} : within lo hi n = true ↔ lo ≤ n ∧ n ≤ hi := by simp [within]

theorem withinI_iff {lo hi i : Int} : withinI lo hi i = true ↔ lo ≤ i ∧ i ≤ hi := by simp [withinI]

theorem methodOf_isSome (m : Nat) : (methodOf m).isSome = true ↔ m ≤ 3 := by
  rcases m with _ | _ | _ | _ | m <;> simp [methodOf]

/-- Field 9 as the model checks it: absent, or one of the four methods. -/
theorem methodCheck_iff (m : Option Nat) :
    (∀ k, m = some k → k ≤ 3) ↔ ((m.map methodOf).isNone || (m.bind methodOf).isSome) = true := by
  cases m <;> simp [methodOf_isSome]

theorem gap_le_iff (m n k : Nat) : ((m : Int) - n).natAbs ≤ k ↔ gap m n ≤ k := by
  unfold gap
  omega

/-- The checks of the geometry of an arc (R38), whose shape is that of the record's own kind. -/
theorem arcChecks_agree {s : State} {r : SegmentReq} (k : SegKind) (hk : r.kind = 2 ∨ r.kind = 3) (hl : k ≠ .line) :
    ChecksAgree ((segmentRules s r).drop 3) (geometryChecks s.cfg k (some (arcOf s r))) := by
  have h4 : r.kind ≠ 4 := by omega
  have h1 : r.kind ≠ 1 := by omega
  simp only [segmentRules, geometryChecks, List.drop, if_neg hl, List.append_nil, List.cons_append, List.nil_append]
  refine .cons (by simp [h4, withinI_iff, arcOf, arcShape]) (.cons (by simp [h4, withinI_iff, arcOf, arcShape])
    (.skip (fun h => absurd h h1) (.cons (by simp [hk]) (.cons ?_ (.cons (by simp [hk]) (.cons (by simp [hk])
      checksAgree_nil))))))
  simp only [hk, forall_const, gap_le_iff, arcOf, arcShape]
  exact decide_eq_true_iff.symm

/-- The field and geometry checks of R37 and R38, kind by kind. -/
theorem segmentRules_agree (s : State) (r : SegmentReq) :
    ChecksAgree (segmentRules s r) (segmentFieldChecks s r) := by
  have hcut : ∀ k : SegKind, CuttingByte r.kind → k.cutting = true → segKindOf r.kind = some k →
      ChecksAgree ((segmentRules s r).drop 3) (geometryChecks s.cfg k (segmentShape (startPoint s) k r)) →
      ChecksAgree (segmentRules s r) (segmentFieldChecks s r) := by
    intro k hc hk hs g
    have h4 : r.kind ≤ 4 := by rcases hc with h | h | h <;> omega
    simp only [segmentFieldChecks, hs, hk, if_true]
    exact .skip h4 (.cons (by simp [hc, within_iff]) (.cons (by rw [← methodCheck_iff]; simp [hc]) g))
  rcases Nat.lt_or_ge 4 r.kind with h | h
  · have hs : segKindOf r.kind = none := by unfold segKindOf; split <;> simp_all
    have hn : ¬ r.kind ≤ 4 := by omega
    simp [ChecksAgree, segmentFieldChecks, hs, segmentRules, FirstFail, AllHold, firstFault, hn, eq_comm]
  · obtain h | h | h | h | h : r.kind = 0 ∨ r.kind = 1 ∨ r.kind = 2 ∨ r.kind = 3 ∨ r.kind = 4 := by omega
    · simp only [segmentFieldChecks, h, segKindOf, SegKind.cutting, segmentShape, geometryChecks, straightShape,
        segmentRules, CuttingByte]
      exact .skip (by simp) (.skip (by simp) (.skip (by simp) (.cons (by simp [withinI_iff]) (.cons (by simp [withinI_iff])
        (.skip (by simp) (.skip (by simp) (.skip (by simp) (.skip (by simp) (.skip (by simp) checksAgree_nil)))))))))
    · refine hcut .line (.inl h) rfl (by rw [h]; rfl) ?_
      simp only [h, segmentShape, geometryChecks, straightShape, segmentRules, List.drop, if_true]
      exact .cons (by simp [withinI_iff]) (.cons (by simp [withinI_iff]) (.cons (by simp) (.skip (by simp)
        (.skip (by simp) (.skip (by simp) (.skip (by simp) checksAgree_nil))))))
    · have hs : segmentShape (startPoint s) .arcCw r = some (arcOf s r) := by simp [segmentShape, arcOf, h]
      exact hcut .arcCw (.inr (.inl h)) rfl (by rw [h]; rfl) (hs ▸ arcChecks_agree _ (.inl h) (by decide))
    · have hs : segmentShape (startPoint s) .arcCcw r = some (arcOf s r) := by simp [segmentShape, arcOf, h]
      exact hcut .arcCcw (.inr (.inr h)) rfl (by rw [h]; rfl) (hs ▸ arcChecks_agree _ (.inr h) (by decide))
    · simp only [segmentFieldChecks, h, segKindOf, SegKind.cutting, segmentShape, geometryChecks, segmentRules,
        CuttingByte]
      exact .skip (by simp) (.skip (by simp) (.skip (by simp) (.skip (by simp) (.skip (by simp)
        (.skip (by simp) (.skip (by simp) (.skip (by simp) (.skip (by simp) (.skip (by simp) checksAgree_nil)))))))))

/-! ## The checks before them -/

/-- The kind byte names a cutting segment exactly when the model reads it as one. -/
theorem cuttingByte_iff (k : Nat) : CuttingByte k ↔ ((segKindOf k).map SegKind.cutting).getD false = true := by
  unfold CuttingByte
  rcases k with _ | _ | _ | _ | _ | k <;> simp [segKindOf, SegKind.cutting]

/-- A slot that holds a record is one of the eight (R54). -/
theorem material_isSome_iff (s : State) (slot : Nat) :
    (s.material slot).isSome = true ↔ ∃ k : Fin 8, slot = k.val ∧ s.tables.materials[k].isSome := by
  unfold State.material
  constructor
  · intro h
    rcases Nat.lt_or_ge slot 8 with hlt | hge
    · exact ⟨⟨slot, hlt⟩, rfl, by simpa [hlt] using h⟩
    · simp [hge] at h
  · rintro ⟨k, rfl, hk⟩
    simpa using hk

/-- The material a Segment record needs: none unless it cuts, else that of its slot (R36). -/
def NeedsMaterial (s : State) (r : SegmentReq) : Prop :=
  CuttingByte r.kind → ∃ k : Fin 8, r.slot = k.val ∧ s.tables.materials[k].isSome

/-- The material check of a Segment record, by whether the record has the material it needs (R36). -/
theorem slotCheck_of_needs {s : State} {r : SegmentReq} (h : NeedsMaterial s r) :
    (if ((segKindOf r.kind).map SegKind.cutting).getD false then slotCheck s r.slot else none) = none := by
  rw [NeedsMaterial, cuttingByte_iff, ← material_isSome_iff] at h
  split
  · simp [slotCheck, h ‹_›]
  · rfl

theorem slotCheck_of_lacks {s : State} {r : SegmentReq} (h : ¬ NeedsMaterial s r) :
    (if ((segKindOf r.kind).map SegKind.cutting).getD false then slotCheck s r.slot else none)
      = some (.noSlot, r.slot) := by
  rw [NeedsMaterial, cuttingByte_iff, ← material_isSome_iff, Classical.not_imp] at h
  rw [if_pos h.1]
  simp [slotCheck, h.2]

theorem freeCheck_one (s : State) :
    freeCheck s 1 = if s.queue.entries.length < 256 then none else some (.queueFull, 1) := by
  have hiff : 1 ≤ 256 - s.queue.entries.length ↔ s.queue.entries.length < 256 := by omega
  simp only [freeCheck, State.free, hiff]

/-- Segment is taken in the four states of Table 1-3. -/
theorem queueTaken_of {st : CtrlState} (h : st = .idle ∨ st = .homing ∨ st = .run ∨ st = .hold) :
    queueTaken st = true := by
  rcases h with h | h | h | h <;> rw [h] <;> rfl

/-- A Segment whose ordered checks give a refusal is answered with it, and nothing changes (R4). -/
theorem exec_segment_refused {tag : Byte} {r : SegmentReq} {s : State} {code : ResultCode} {detail : Nat}
    (hroom : s.hasRoom = true) (ht : queueTaken s.job.state = true) (h : segmentRefusal s r = some (code, detail)) :
    ∃ t, exec (.segment tag r) s = .next t ∧ Refused s t tag 0x05 code (some detail) :=
  ⟨_, rfl, refused_of_refuse hroom tag 0x05 code (some detail) (answerSegment r) (by simp [answerSegment, ht, h])⟩

/-- Settles O26: each check is the first that fails when those before it pass. -/
theorem segmentRefusedInOrder : Obligations.SegmentRefusedInOrder := by
  intro tag r s hroom hst
  have ht := queueTaken_of hst
  refine ⟨fun hseq => ?_, fun hseq hfull => ?_, fun hseq hfree hm => ?_, fun hseq hfree hm n hn => ?_⟩ <;>
    refine exec_segment_refused hroom ht ?_
  · simp [segmentRefusal, sequenceCheck, hseq]
  · simp [segmentRefusal, sequenceCheck, hseq, freeCheck_one, hfull]
  · simp only [segmentRefusal, sequenceCheck, hseq, freeCheck_one, hfree, slotCheck_of_lacks hm, if_true, Option.none_or,
      Option.some_or]
  · simp only [segmentRefusal, sequenceCheck, hseq, freeCheck_one, hfree, slotCheck_of_needs hm, if_true, Option.none_or,
      (segmentRules_agree s r).1 n hn, Option.map_some]

/-! ## The accepted record -/

/-- The entry of a record whose fields pass is the one R29, R30, R35 and Table 2-3 give. -/
theorem segmentEntry_resolved {s : State} {r : SegmentReq} {k : SegKind} (hk : segKindOf r.kind = some k)
    (hm : ∀ m, r.method = some m → CuttingByte r.kind → m ≤ 3) : Resolved s r (segmentEntry s k r) := by
  have hcut : CuttingByte r.kind ↔ k.cutting = true := by simp [cuttingByte_iff, hk]
  constructor
  case seq | pidx | report | tag => rfl
  case kind =>
    rcases hr : r.kind with _ | _ | _ | _ | _ | n <;> simp_all [segKindOf, segmentEntry]
  case cutting => intro h; simp [segmentEntry, hcut.mp h]
  case plain => intro h; simp [segmentEntry, show k.cutting = false by simpa [hcut] using h]
  case sent =>
    intro h
    simp only [segmentEntry, hcut.mp h, if_true]
    cases hr : r.method with
    | none => rfl
    | some m =>
      have hle : m ≤ 3 := hm m hr h
      rcases m with _ | _ | _ | _ | m
      case succ.succ.succ.succ => omega
      all_goals rfl
  case opens => simp [segmentEntry, hcut]
  case method =>
    intro h m hmat
    have hc : k.cutting = true := by simp_all [segmentEntry]
    simp only [segmentEntry] at h ⊢
    rw [if_pos h, hmat]
    cases hr : r.method with
    | none => simp [resolvedMethod]
    | some n =>
      have := hm n hr (hcut.mpr hc)
      rcases n with _ | _ | _ | _ | n <;> simp_all [methodOf, resolvedMethod]
  case unshaped => intro h; simp_all [segKindOf, segmentEntry, segmentShape]; subst hk; rfl
  case shape =>
    intro h
    rcases hr : r.kind with _ | _ | _ | _ | _ | n <;> simp_all [segKindOf] <;> subst hk <;>
      simp [segmentEntry, segmentShape, straightShape, arcOf, arcShape, hr]

/-- A Segment whose checks all pass is taken: its entry joins the queue and the job goes on by it (R39). -/
theorem answerSegment_accepted {s : State} {r : SegmentReq} (ht : queueTaken s.job.state = true)
    (hseq : r.seq = s.queue.expected) (hfree : s.queue.entries.length < 256) (hm : NeedsMaterial s r)
    (hall : AllHold (segmentRules s r)) :
    ∃ k, segKindOf r.kind = some k ∧ Resolved s r (segmentEntry s k r)
      ∧ answerSegment r s = okAnswer none (afterAppend (acceptEntries [segmentEntry s k r] s)) := by
  have h4 : r.kind ≤ 4 := hall.1
  have h9 : CuttingByte r.kind → ∀ m, r.method = some m → m ≤ 3 := hall.2.2.1
  obtain ⟨k, hk⟩ : ∃ k, segKindOf r.kind = some k := by
    rcases hr : r.kind with _ | _ | _ | _ | _ | n
    case succ.succ.succ.succ.succ => omega
    all_goals exact ⟨_, rfl⟩
  have href : segmentRefusal s r = none := by
    simp only [segmentRefusal, sequenceCheck, hseq, freeCheck_one, hfree, slotCheck_of_needs hm, if_true,
      Option.none_or, (segmentRules_agree s r).2 hall, Option.map_none]
  exact ⟨k, hk, segmentEntry_resolved hk (fun m hr h => h9 h m hr), by simp only [answerSegment, ht, href, hk, if_true]⟩

/-- Outside RUN and HOLD nothing is closed for, and no closed zone holds the head: a replan makes the plan. -/
theorem replan_at_rest {s : State} (h : s.job.state = .idle ∨ s.job.state = .homing) :
    Keeps [.plan] s (replan s) := by
  have hr : s.job.state ≠ .run := by rcases h with h | h <;> simp [h]
  have hh : s.job.state ≠ .hold := by rcases h with h | h <;> simp [h]
  have hj : (planCore s).job = s.job := (planCore_keeps s).job rfl
  simp only [replan, List.foldl_nil, closeWatch, hj, hr, hh, or_false, and_false, if_false]
  exact (setPlan_keeps ..).comp rfl (planCore_keeps s)

theorem settle_at_rest {s : State} (h : s.job.state = .idle ∨ s.job.state = .homing) : settle s = s := by
  unfold settle
  rcases h with h | h <;> simp [h]

/-- What an acceptance in IDLE or HOMING does: the entries join the queue, the plan is made anew and the lamps follow
(R39, R92, R163). -/
theorem afterAppend_at_rest {s : State} (es : List QueueEntry) (h : s.job.state = .idle ∨ s.job.state = .homing) :
    Keeps [.queue, .plan, .zone] s (afterAppend (acceptEntries es s))
    ∧ (afterAppend (acceptEntries es s)).queue = (acceptEntries es s).queue
    ∧ (afterAppend (acceptEntries es s)).zone = withLampsOf (afterAppend (acceptEntries es s)) s := by
  have ha := acceptEntries_keeps es s
  have hs : (acceptEntries es s).job.state = .idle ∨ (acceptEntries es s).job.state = .homing := by
    rwa [ha.job rfl]
  have hp := replan_at_rest hs
  have hrun : (acceptEntries es s).inRun .starved = false := by rcases hs with hs | hs <;> simp [State.inRun, hs]
  have heq : afterAppend (acceptEntries es s) = lampDerive (replan (acceptEntries es s)) := by
    rw [afterAppend, if_neg (by simp [hrun]), done, settle_at_rest (by rwa [hp.job rfl])]
  have hl := lampDerive_keeps (replan (acceptEntries es s))
  rw [heq]
  refine ⟨hl.comp rfl (hp.comp rfl (ha.comp rfl (Keeps.refl _ _))), ?_, ?_⟩
  · rw [hl.queue rfl, hp.queue rfl]
  · conv_lhs => rw [lampDerive_zone, withLampsOf, hp.zone rfl, ha.zone rfl]
    rfl

/-- Settles O27: the accepted record's entry is the resolved one, and the acceptance keeps all but the queue, the plan
and the lamps. -/
theorem segmentAcceptedAtRest : Obligations.SegmentAcceptedAtRest := by
  intro tag r s hroom hst hseq hfree hm hall
  have ht : queueTaken s.job.state = true := queueTaken_of (by tauto)
  obtain ⟨k, -, hres, hans⟩ := answerSegment_accepted ht hseq hfree hm hall
  obtain ⟨hkeep, hqueue, hzone⟩ := afterAppend_at_rest [segmentEntry s k r] hst
  obtain ⟨posted, hposts⟩ := hkeep.posts
  refine ⟨_, posted, segmentEntry s k r, rfl,
    replied_of_ok hroom tag 0x05 none (answerSegment r) hans hkeep.freeCount hposts, ?_, hres, ?_⟩
  · rw [serve_ok_eq hroom tag 0x05 none _ hans]
    exact hqueue ▸ acceptEntries_appended _ s
  · rw [serve_ok_eq hroom tag 0x05 none _ hans]
    have heq := hkeep.eq_of_queue_plan_zone
    generalize afterAppend (acceptEntries [segmentEntry s k r] s) = u at *
    rw [heq]
    simp only [State.mk.injEq, true_and, and_true]
    exact hzone

/-! ## An END that joins an empty queue -/

theorem mem_insertFirst {t u : Stop} {l : List Stop} (h : u ∈ sortStops.insertFirst t l) : u = t ∨ u ∈ l := by
  induction l with
  | nil => simpa [sortStops.insertFirst] using h
  | cons v l ih =>
    unfold sortStops.insertFirst at h
    split at h
    · simpa using h
    · rcases List.mem_cons.mp h with rfl | h
      · simp
      · rcases ih h with rfl | h <;> simp_all

/-- Sorting brings no new stop. -/
theorem mem_of_mem_sortStops {u : Stop} {l : List Stop} (h : u ∈ sortStops l) : u ∈ l := by
  induction l with
  | nil => exact h
  | cons t l ih =>
    simp only [sortStops] at h
    split at h
    · exact List.mem_cons_of_mem _ (ih h)
    · rcases mem_insertFirst h with rfl | h
      · simp
      · exact List.mem_cons_of_mem _ (ih h)

/-- A replan carries no ZONE stop over as one: the closed zones call for theirs afresh (R92, R96). -/
theorem carriedStop_not_zone {s : State} {legs : List Leg} {t u : Stop} (h : u ∈ carriedStop s legs t) :
    u.kind ≠ .zone := by
  unfold carriedStop stopAtHead at h
  repeat' split at h
  all_goals simp at h
  all_goals simp_all

/-- No stop that the legs call for is a ZONE stop (R88). -/
theorem plainStops_not_zone {s : State} {legs : List Leg} {u : Stop} (h : u ∈ plainStops s legs) : u.kind ≠ .zone := by
  have hlegs : ∀ (q : Int) (ls : List Leg), ∀ v ∈ legStops s.cfg q ls, v.kind ≠ .zone := by
    intro q ls
    induction ls generalizing q with
    | nil => simp [legStops]
    | cons a ls ih =>
      intro v hv
      cases ls with
      | nil =>
        simp only [legStops, endStop] at hv
        repeat' split at hv
        all_goals simp at hv
        all_goals simp [hv]
      | cons b ls =>
        simp only [legStops, List.mem_append] at hv
        rcases hv with hv | hv
        · simp only [junctionStops, List.mem_append] at hv
          rcases hv with (hv | hv) | hv <;> split at hv <;> simp at hv <;> simp [hv]
        · exact ih _ v hv
  simp only [plainStops] at h
  rcases List.mem_append.mp (mem_of_mem_sortStops h) with h | h
  · obtain ⟨v, hv, rfl⟩ := List.mem_map.mp h
    simp only [List.mem_append] at hv
    rcases hv with ((hv | hv) | hv) | hv
    · unfold startStops at hv
      dsimp only at hv
      repeat' split at hv
      all_goals simp at hv
      all_goals aesop
    · exact hlegs 0 legs v hv
    · unfold sequenceStop at hv
      dsimp only at hv
      repeat' split at hv
      all_goals simp at hv
      all_goals simp [hv]
    · unfold creepStop at hv
      split at hv
      all_goals simp at hv
      all_goals simp [hv]
  · obtain ⟨l, hl, hu⟩ := List.mem_flatten.mp h
    obtain ⟨t, -, rfl⟩ := List.mem_map.mp hl
    exact carriedStop_not_zone hu

/-- No ZONE stop stands before a lone END, which touches no zone (R96, R158). -/
theorem zoneStops_lone_end {s : State} {l : Leg} (hs : l.shape = none) (stops : List Stop) :
    zoneStops s [l] stops = [] := by
  have hz : ∀ z, zoneStop s [l] stops z = .noStop := by
    intro z
    have ht : l.touches s.cfg z = false := by simp [Leg.touches, Leg.extent, hs]
    simp [zoneStop, zoneJunction, zoneJunction.go, ht]
  simp [zoneStops, hz]

/-- A head in RUN that stands before a lone END has nothing to begin: the END waits for the jet to be CLOSED (R19; log
entry 37). -/
theorem proceed_lone_end {s : State} {e : QueueEntry} (hrun : s.job.state = .run) (he : s.queue.entries = [e])
    (hk : e.kind = .segEnd) (hsh : e.shape = none) (hrec : s.queue.recPath = []) (happ : s.plan.approach = none)
    (hpos : s.axis.pathPos = 0) : proceed (planCore s) = planCore s := by
  obtain ⟨l, hl, hend, hshape⟩ : ∃ l, planLegs s = [l] ∧ l.isEnd = true ∧ l.shape = none := by
    exact ⟨_, by simp [planLegs, hrec, happ, queueLegs, he, linkLegs]; rfl, by simp [entryLeg, hk], by simp [entryLeg, hsh]⟩
  have hplan := planCore_run hrun
  have hlegs : (planCore s).plan.legs = [l] := by simp [hplan, replanned, hl]
  have hstops : ∀ u ∈ (planCore s).plan.stops, u.kind ≠ .zone := by
    intro u hu
    rw [hplan, State.setPlan_plan, replanned, hl, zoneStops_lone_end hshape, List.append_nil] at hu
    exact plainStops_not_zone (mem_of_mem_sortStops hu)
  have hinside : zonesInside (planCore s) = [] := by
    rw [zonesInside, List.filter_eq_nil_iff.mpr]
    · rfl
    · intro u hu; simp [hstops u hu]
  have hp := planCore_keeps s
  have hneed : needOf (planCore s) = .atEnd := by simp [needOf, hp.queue rfl, hrec, hlegs, hend]
  have htouch : ∀ c z, l.touches c z = false := by simp [Leg.touches, Leg.extent, hshape]
  have hfree : (withheldBy (planCore s) (needOf (planCore s))).zones = [] := by
    simp [withheldBy, hp.queue rfl, hrec, hlegs, hp.axis rfl, hpos, htouch, zoneBehindZeroLeg, hinside]
  rw [hneed] at hfree
  simp only [proceed, hneed, hfree, beginNeed, hp.job rfl, hrun, if_true]

/-- A lone END accepted in RUN/STARVED, the head standing and the jet CLOSED, retires as the acceptance settles (R39,
R43). -/
theorem afterAppend_lone_end {s : State} {e : QueueEntry} (hrun : s.job.state = .run) (hsub : s.job.sub = some .starved)
    (he : s.queue.entries = [e]) (hk : e.kind = .segEnd) (hsh : e.shape = none) (hrec : s.queue.recPath = [])
    (hjet : s.jet.state = .closed) (hspeed : s.axis.speed = 0) (hpos : s.axis.pathPos = 0)
    (happ : s.plan.approach = none) : afterAppend s = lampDerive (retireEnd e (planCore s)) := by
  have happroach : placeApproach s = s :=
    placeApproach_of_none (by simp [approachFor, State.queueHead, he, hk, hsh, SegKind.cutting]) happ
  have hp := planCore_keeps s
  have hsettle : settle (planCore s) = retireEnd e (planCore s) :=
    settle_retires_end (by rw [hp.job rfl, hrun]) (by rw [hp.jet rfl, hjet]) (by simp [State.queueHead, hp.queue rfl, he])
      hk (by simp [State.standsAtEnd, hp.axis rfl, hp.queue rfl, hspeed, hpos, hrec, happ])
  rw [afterAppend, if_pos (by simp [State.inRun, hrun, hsub]), happroach,
    proceed_lone_end hrun he hk hsh hrec happ hpos, done, hsettle]

/-- Settles O29: the END joins the empty queue, the head has nothing to begin, and settling retires it. -/
theorem endInStarvedEndsTheJob : Obligations.EndInStarvedEndsTheJob := by
  intro tag r s hroom hrun hsub hkind hseq hempty hrec hjet hrest hpos happ hhist
  obtain ⟨hspeed, -, -⟩ := hrest
  have hcut : ¬ CuttingByte r.kind := by simp [CuttingByte, hkind]
  obtain ⟨k, hk, hres, hans⟩ := answerSegment_accepted (s := s) (r := r) (queueTaken_of (by tauto)) hseq
    (by simp [hempty]) (fun h => absurd h hcut) (by simp [segmentRules, AllHold, CuttingByte, hkind])
  generalize segmentEntry s k r = e at hres hans
  have hek : e.kind = .segEnd := by simpa [hkind] using hres.kind
  have hslot : e.slot = none := (hres.plain hcut).1
  have hes : e.shape = none := hres.unshaped hkind
  have ha := acceptEntries_keeps [e] s
  obtain ⟨haq, hau, -, -⟩ := acceptEntries_appended [e] s
  generalize acceptEntries [e] s = a at ha haq hau hans
  have hae : a.queue.entries = [e] := by rw [haq]; simp [hempty]
  have hafter : afterAppend a = lampDerive (retireEnd e (planCore a)) :=
    afterAppend_lone_end (by rw [ha.job rfl, hrun]) (by rw [ha.job rfl, hsub]) hae hek hes (by rw [haq]; exact hrec)
      (by rw [ha.jet rfl, hjet]) (by rw [ha.axis rfl, hspeed]) (by rw [ha.axis rfl, hpos]) (by rw [ha.plan rfl, happ])
  have hp := planCore_keeps a
  have hl := lampDerive_keeps (retireEnd e (planCore a))
  have hr := retireEnd_keeps e (planCore a)
  obtain ⟨p, hposts⟩ := (hp.comp (cs := [.queue, .plan]) rfl (ha.comp rfl (Keeps.refl _ _))).posts
  obtain ⟨q, hretired, hmem⟩ := retireEnd_posts e (planCore a)
  obtain ⟨m, hlamps, -⟩ := lampDerive_posts (retireEnd e (planCore a))
  have hkeep : Keeps [.job, .queue, .plan, .axis, .jet, .zone] s (afterAppend a) :=
    hafter ▸ hl.comp rfl (hr.comp rfl (hp.comp rfl (ha.comp rfl (Keeps.refl _ _))))
  have hqueue : (afterAppend a).queue = (retireEntry e 0 none (planCore a)).queue := by
    rw [hafter, hl.queue rfl, retireEnd_queue]
  rw [retireEntry_queue, hp.queue rfl, hae, haq] at hqueue
  rw [hafter] at hans
  refine ⟨_, p ++ (q ++ m), rfl, replied_of_ok hroom tag 0x05 none (answerSegment r) hans
    (hafter ▸ hkeep.freeCount) (Posts.trans hposts (hretired.trans hlamps)), ?_⟩
  rw [serve_ok_eq hroom tag 0x05 none _ hans, ← hafter]
  dsimp only
  refine ⟨?_, ?_, ?_, ?_, ?_, ?_, ?_, ?_, ?_, hkeep.tables, hkeep.config, hkeep.wear rfl, hkeep.pump rfl⟩
  · rw [hafter, hl.job rfl, retireEnd_job, hp.job rfl, ha.job rfl]
  · rw [hqueue]; rfl
  · rw [hqueue]
  · rw [hqueue, hslot]
    exact Vector.ext fun i hi => by simpa [bumpUse, hslot] using hau ⟨i, hi⟩
  · rw [hqueue]; exact pushHistory_length ..
  · rw [hqueue]
    simp [pushHistory, historyEntry, hres.seq]
  · intro hrep
    have := hmem (hres.report.trans hrep)
    rw [hres.seq, hres.pidx, hres.tag] at this
    simp [this]
  · rw [hafter, hl.axis rfl, retireEnd_zCmd]
  · rw [hafter, hl.jet rfl, retireEnd_jet]

end Sys2Proof.Machine
end

section
/-! PROOFS. The Feed Planner's arithmetic (R82 to R90): the planned speed is the greatest that meets every bound, the
plan made over a queue has the limits of R83 to R87, and the deflections of R86. -/

namespace Sys2Proof.Machine

open Sys2Proof

/-! ## Square roots and least bounds -/

/-- Each two binary digits of the argument settle one of the root. -/
theorem isqrtSteps_spec (f n : Nat) (h : n < 4 ^ f) :
    isqrtSteps f n * isqrtSteps f n ≤ n ∧ n < (isqrtSteps f n + 1) * (isqrtSteps f n + 1) := by
  induction f generalizing n with
  | zero => simp_all [isqrtSteps]
  | succ f ih =>
    have hq : n / 4 < 4 ^ f := by
      rw [pow_succ] at h
      omega
    obtain ⟨hlo, hhi⟩ := ih (n / 4) hq
    simp only [isqrtSteps]
    generalize isqrtSteps f (n / 4) = r at *
    have hlo4 : 4 * (r * r) ≤ n := by omega
    have hhi4 : n < 4 * ((r + 1) * (r + 1)) := by omega
    split
    · exact ⟨‹_›, by nlinarith⟩
    · exact ⟨by nlinarith, by nlinarith⟩

/-- R1: the largest integer whose square does not exceed `n`. -/
theorem le_isqrt_iff (v n : Nat) : v ≤ isqrt n ↔ v * v ≤ n := by
  have hn : n < 4 ^ (n.log2 / 2 + 1) := by
    calc n < 2 ^ (n.log2 + 1) := Nat.lt_log2_self
      _ ≤ 2 ^ (2 * (n.log2 / 2 + 1)) := Nat.pow_le_pow_right (by decide) (by omega)
      _ = 4 ^ (n.log2 / 2 + 1) := by rw [pow_mul]; rfl
  obtain ⟨hlo, hhi⟩ := isqrtSteps_spec _ n hn
  unfold isqrt
  constructor
  · exact fun h => (Nat.mul_le_mul h h).trans hlo
  · intro h
    by_contra hlt
    have hr : isqrtSteps (n.log2 / 2 + 1) n + 1 ≤ v := Nat.lt_of_not_le hlt
    exact absurd (Nat.mul_le_mul hr hr) (by omega)

/-- R89, R90: a speed meets a bound when its square does. -/
theorem le_bound_iff (v vj a L : Nat) : v ≤ bound vj a L ↔ v * v ≤ vj * vj + 72 * a * L / 10 := le_isqrt_iff ..

theorem le_leastOf_iff (v n : Nat) (ms : List Nat) : v ≤ leastOf n ms ↔ v ≤ n ∧ ∀ m ∈ ms, v ≤ m := by
  induction ms generalizing n with
  | nil => simp [leastOf]
  | cons m ms ih => simp [leastOf, ih, and_assoc]

/-- The least of the bounds is one of them. -/
theorem leastOf_le {n m : Nat} {ms : List Nat} (h : m ∈ ms) : leastOf n ms ≤ m :=
  ((le_leastOf_iff _ n ms).mp (le_refl _)).2 m h

theorem leastOf_le_first (n : Nat) (ms : List Nat) : leastOf n ms ≤ n := ((le_leastOf_iff _ n ms).mp (le_refl _)).1

/-! ## Positions along the plan path -/

@[simp] theorem legStart_zero (legs : List Leg) : legStart legs 0 = 0 := rfl

theorem legStart_cons_succ (l : Leg) (legs : List Leg) (i : Nat) :
    legStart (l :: legs) (i + 1) = l.len + legStart legs i := by
  simp [legStart]

theorem legStart_nonneg (legs : List Leg) (i : Nat) : 0 ≤ legStart legs i := Int.natCast_nonneg _

/-- The leg at a position is the one that the position lies on, the last one beyond (R82). -/
theorem legAt_eq {legs : List Leg} {i : Nat} {l : Leg} {x : Int} (hi : legs[i]? = some l) (hlo : legStart legs i ≤ x)
    (hhi : x < legStart legs (i + 1) ∨ i + 1 = legs.length) : legAt x legs = some l := by
  induction legs generalizing i x with
  | nil => simp at hi
  | cons a ls ih =>
    cases ls with
    | nil =>
      cases i with
      | zero => simpa [legAt] using hi
      | succ i => simp at hi
    | cons b ls =>
      unfold legAt
      cases i with
      | zero =>
        have hx : x < a.len := by simpa [legStart_cons_succ] using hhi
        simpa [hx] using hi
      | succ i =>
        have hnn := legStart_nonneg (b :: ls) i
        rw [legStart_cons_succ] at hlo
        rw [legStart_cons_succ] at hhi
        rw [if_neg (by omega)]
        exact ih (i := i) (by simpa using hi) (by omega) (by simpa [Int.sub_lt_iff, add_comm] using hhi)

/-- The inner junctions of a path whose first leg begins at `p`: one behind each leg but the last (R87, R93). -/
theorem mem_junctions_iff (c : ConfigRec) (t : Option Transition) (p : Int) (legs : List Leg) (j : Int × Nat × Nat) :
    j ∈ junctions c t p legs ↔ ∃ i a, legs[i]? = some a ∧ i + 1 < legs.length
      ∧ j = (p + legStart legs (i + 1),
          if upTo t (p + legStart legs (i + 1)) then a.formerJunction else a.junction, a.accel c) := by
  induction legs generalizing p with
  | nil => simp [junctions]
  | cons a ls ih =>
    cases ls with
    | nil => simp [junctions]
    | cons b ls =>
      simp only [junctions, List.mem_cons, ih]
      constructor
      · rintro (rfl | ⟨i, d, hi, hlen, rfl⟩)
        · exact ⟨0, a, rfl, by simp, by simp [legStart_cons_succ]⟩
        · exact ⟨i + 1, d, by simpa using hi, by simpa using hlen, by simp [legStart_cons_succ (l := a), add_assoc]⟩
      · rintro ⟨i, d, hi, hlen, rfl⟩
        cases i with
        | zero =>
          obtain rfl : a = d := by simpa using hi
          exact .inl (by simp [legStart_cons_succ])
        | succ i =>
          exact .inr ⟨i, d, by simpa using hi, by simpa using hlen, by simp [legStart_cons_succ (l := a), add_assoc]⟩

theorem mem_planJunctions_iff (c : ConfigRec) (p : Plan) (j : Int × Nat × Nat) :
    j ∈ p.junctions c ↔ ∃ i a, p.legs[i]? = some a ∧ i + 1 < p.legs.length
      ∧ j = (legStart p.legs (i + 1),
          if upTo p.transition (legStart p.legs (i + 1)) then a.formerJunction else a.junction, a.accel c) := by
  unfold Plan.junctions
  simpa using mem_junctions_iff c p.transition 0 p.legs j

/-- The inner junctions lie at or behind the end of the first leg. -/
theorem junction_pos_ge {c : ConfigRec} {p : Plan} {l : Leg} {ls : List Leg} (hl : p.legs = l :: ls)
    {j : Int × Nat × Nat} (hj : j ∈ p.junctions c) : (l.len : Int) ≤ j.1 := by
  obtain ⟨i, a, -, -, rfl⟩ := (mem_planJunctions_iff c p j).mp hj
  rw [hl, legStart_cons_succ]
  have := legStart_nonneg ls i
  omega

/-! ## Stops ahead -/

theorem nextStop_concat (ts : List Stop) (t : Stop) (x : Int) :
    nextStop (ts ++ [t]) x = if t.pos < x then nextStop ts x
      else some (((nextStop ts x).map (fun q => min q t.pos)).getD t.pos) := by
  unfold nextStop
  rw [List.foldl_append, List.foldl_cons, List.foldl_nil]
  split
  · rfl
  · generalize List.foldl _ none ts = o
    cases o <;> rfl

/-- With no next stop, every stop lies behind (R89). -/
theorem behind_of_nextStop_none {ts : List Stop} {x : Int} (h : nextStop ts x = none) : ∀ u ∈ ts, u.pos < x := by
  induction ts using List.reverseRecOn with
  | nil => simp
  | append_singleton ts t ih =>
    rw [nextStop_concat] at h
    split at h
    · simpa [or_imp, forall_and] using ⟨ih h, ‹_›⟩
    · cases h

/-- The next stop is the nearest of those at or ahead of `x` (R89). -/
theorem nearest_of_nextStop_some {ts : List Stop} {x q : Int} (h : nextStop ts x = some q) :
    (∃ u ∈ ts, u.pos = q) ∧ x ≤ q ∧ ∀ u ∈ ts, x ≤ u.pos → q ≤ u.pos := by
  induction ts using List.reverseRecOn generalizing q with
  | nil => cases h
  | append_singleton ts t ih =>
    rw [nextStop_concat] at h
    simp only [List.mem_append, List.mem_singleton, or_imp, forall_and, forall_eq]
    split at h
    · next ht =>
      obtain ⟨⟨w, hw, hwq⟩, hx, hmin⟩ := ih h
      exact ⟨⟨w, .inl hw, hwq⟩, hx, hmin, by omega⟩
    · next ht =>
      cases ho : nextStop ts x with
      | none =>
        rw [ho] at h
        obtain rfl : t.pos = q := by simpa using h
        refine ⟨⟨t, .inr rfl, rfl⟩, by omega, fun u hu hx => ?_, fun _ => le_refl _⟩
        have := behind_of_nextStop_none ho u hu
        omega
      | some n =>
        rw [ho] at h
        obtain rfl : min n t.pos = q := by simpa using h
        obtain ⟨⟨w, hw, hwn⟩, hx, hmin⟩ := ih ho
        refine ⟨?_, by omega, fun u hu hxu => (min_le_left ..).trans (hmin u hu hxu), fun _ => min_le_right ..⟩
        rcases le_total n t.pos with hn | hn
        · exact ⟨w, .inl hw, by omega⟩
        · exact ⟨t, .inr rfl, by omega⟩

/-- A stop at or ahead of `x` is the next one exactly when no stop lies between (R89). -/
theorem nextStop_eq_iff {p : Plan} {x : Int} {u : Stop} (hu : u ∈ p.allStops) (hx : x ≤ u.pos) :
    nextStop p.allStops x = some u.pos ↔ NoStopBefore p x u.pos := by
  constructor
  · exact fun h => (nearest_of_nextStop_some h).2.2
  · intro hno
    cases h : nextStop p.allStops x with
    | none =>
      have := behind_of_nextStop_none h u hu
      omega
    | some q =>
      obtain ⟨⟨w, hw, hwq⟩, hxq, hmin⟩ := nearest_of_nextStop_some h
      have h1 := hno w hw (by omega)
      have h2 := hmin u hu hx
      rw [Option.some.injEq]
      omega

/-- A position up to the next stop has no stop before it, and any has none when there is none (R89). -/
theorem upToNextStop_iff (p : Plan) (x q : Int) :
    (∀ n, nextStop p.allStops x = some n → q ≤ n) ↔ NoStopBefore p x q := by
  constructor
  · intro h u hu hx
    cases hn : nextStop p.allStops x with
    | none =>
      have := behind_of_nextStop_none hn u hu
      omega
    | some n => exact (h n hn).trans ((nearest_of_nextStop_some hn).2.2 u hu hx)
  · intro hno n hn
    obtain ⟨⟨w, hw, rfl⟩, hx, -⟩ := nearest_of_nextStop_some hn
    exact hno w hw hx

/-! ## The planned speed (R90) -/

theorem legAcceleration_eq (c : ConfigRec) (l : Leg) : legAcceleration c l = l.accel c := by
  simp [legAcceleration, Leg.accel]

theorem upTo_iff (p : Plan) (q : Int) : upTo p.transition q = true ↔ UpToTransition p q := by
  unfold upTo UpToTransition
  cases p.transition <;> simp

/-- The backward bounds at `x`: of the next stop, the junctions up to it, and the transition point (R89, R93). -/
theorem le_backwardBounds_iff (c : ConfigRec) (p : Plan) (l : Leg) (x : Int) (v : Nat) :
    (∀ m ∈ backwardBounds c p l x, v ≤ m) ↔
      (∀ u ∈ p.allStops, x ≤ u.pos → NoStopBefore p x u.pos → v * v ≤ 72 * u.decel * (u.pos - x).toNat / 10)
      ∧ (∀ j ∈ p.junctions c, x ≤ j.1 → NoStopBefore p x j.1 →
          v * v ≤ j.2.1 * j.2.1 + 72 * j.2.2 * (j.1 - x).toNat / 10)
      ∧ (∀ t, p.transition = some t → x ≤ t.pos →
          v * v ≤ t.after * t.after + 72 * l.accel c * (t.pos - x).toNat / 10) := by
  have hstops : (∀ m ∈ (p.allStops.filter (fun t => some t.pos == nextStop p.allStops x)).map
        (fun t => bound 0 t.decel (t.pos - x).toNat), v ≤ m) ↔
      ∀ u ∈ p.allStops, x ≤ u.pos → NoStopBefore p x u.pos → v * v ≤ 72 * u.decel * (u.pos - x).toNat / 10 := by
    simp only [List.forall_mem_map, List.mem_filter, and_imp, beq_iff_eq, le_bound_iff, Nat.zero_mul, Nat.zero_add]
    constructor
    · exact fun h u hu hx hno => h u hu ((nextStop_eq_iff hu hx).mpr hno).symm
    · intro h u hu hn
      have hx := (nearest_of_nextStop_some hn.symm).2.1
      exact h u hu hx ((nextStop_eq_iff hu hx).mp hn.symm)
  have htrans : (∀ m ∈ (match p.transition with
        | some t => if x ≤ t.pos then [bound t.after (l.accel c) (t.pos - x).toNat] else []
        | none => []), v ≤ m) ↔
      ∀ t, p.transition = some t → x ≤ t.pos →
        v * v ≤ t.after * t.after + 72 * l.accel c * (t.pos - x).toNat / 10 := by
    cases p.transition with
    | none => simp
    | some t => by_cases hx : x ≤ t.pos <;> simp [hx, le_bound_iff]
  unfold backwardBounds
  simp only [List.forall_mem_append, hstops]
  rw [and_assoc]
  refine and_congr Iff.rfl (and_congr ?_ ?_)
  · simp only [List.forall_mem_map, List.mem_filter, and_imp, le_bound_iff, Bool.and_eq_true, decide_eq_true_iff]
    refine forall₂_congr fun j _ => forall_congr' fun hx => ?_
    rw [← upToNextStop_iff]
    cases nextStop p.allStops x <;> simp
  · exact htrans

/-- The forward bounds at `x`: from the anchors, the junctions and the stops behind it (R90; log entry 10). -/
theorem le_forwardBounds_iff (c : ConfigRec) (p : Plan) (l : Leg) (x : Int) (v : Nat) :
    (∀ m ∈ forwardBounds c p l x, v ≤ m) ↔
      (∀ a ∈ p.anchors, a.pos ≤ x → v * v ≤ a.speed * a.speed + 72 * l.accel c * (x - a.pos).toNat / 10)
      ∧ (∀ j ∈ p.junctions c, j.1 < x → v * v ≤ j.2.1 * j.2.1 + 72 * l.accel c * (x - j.1).toNat / 10)
      ∧ (∀ u ∈ p.allStops, u.pos < x → v * v ≤ 72 * l.accel c * (x - u.pos).toNat / 10) := by
  unfold forwardBounds
  simp only [List.forall_mem_append, List.forall_mem_map, List.mem_filter, and_imp, decide_eq_true_iff, le_bound_iff,
    Nat.zero_mul, Nat.zero_add, and_assoc]

/-- The bounds of the inner junctions, those ahead up to the next stop and those behind, leg by leg (R89, R90). -/
theorem junctionBounds_iff (c : ConfigRec) (p : Plan) (l : Leg) (x : Int) (v : Nat) :
    ((∀ j ∈ p.junctions c, x ≤ j.1 → NoStopBefore p x j.1 →
        v * v ≤ j.2.1 * j.2.1 + 72 * j.2.2 * (j.1 - x).toNat / 10)
      ∧ ∀ j ∈ p.junctions c, j.1 < x → v * v ≤ j.2.1 * j.2.1 + 72 * l.accel c * (x - j.1).toNat / 10) ↔
    ∀ i a, p.legs[i]? = some a → i + 1 < p.legs.length →
      (let q := legStart p.legs (i + 1)
       ∀ j, (UpToTransition p q → j = a.formerJunction) → (¬ UpToTransition p q → j = a.junction) →
        (x ≤ q → NoStopBefore p x q → v * v ≤ j * j + 72 * legAcceleration c a * (q - x).toNat / 10)
        ∧ (q < x → v * v ≤ j * j + 72 * legAcceleration c l * (x - q).toNat / 10)) := by
  simp only [← upTo_iff, legAcceleration_eq]
  constructor
  · rintro ⟨hahead, hbehind⟩ i a hi hlen j hformer hnew
    have hj : j = if upTo p.transition (legStart p.legs (i + 1)) then a.formerJunction else a.junction := by
      split
      · exact hformer ‹_›
      · exact hnew ‹_›
    have hmem := (mem_planJunctions_iff c p _).mpr ⟨i, a, hi, hlen, rfl⟩
    rw [← hj] at hmem
    exact ⟨hahead _ hmem, hbehind _ hmem⟩
  · intro h
    constructor
    all_goals
      intro j hj
      obtain ⟨i, a, hi, hlen, rfl⟩ := (mem_planJunctions_iff c p j).mp hj
      have hbounds := h i a hi hlen (if upTo p.transition (legStart p.legs (i + 1)) then a.formerJunction else a.junction)
        (fun hu => if_pos hu) (fun hu => if_neg hu)
    · exact hbounds.1
    · exact hbounds.2

/-- A speed is at most the planned one exactly when it meets every bound (R90). -/
theorem le_planSpeed_iff {c : ConfigRec} {p : Plan} {x : Int} {l : Leg} (hl : legAt x p.legs = some l) (v : Nat) :
    v ≤ planSpeed c p x ↔ MeetsEveryBound c p l x v := by
  have hcreep : (∀ m ∈ (match p.creep with
        | some k => if x ≤ k.stop then [k.limit] else []
        | none => []), v ≤ m) ↔ ∀ k, p.creep = some k → x ≤ k.stop → v ≤ k.limit := by
    cases p.creep with
    | none => simp
    | some k => by_cases hx : x ≤ k.stop <;> simp [hx]
  have hlimit : v ≤ limitAt p l x ↔
      (UpToTransition p (x + 1) → v ≤ l.former) ∧ (¬ UpToTransition p (x + 1) → v ≤ l.limit) := by
    rw [← upTo_iff]
    unfold limitAt
    by_cases h : upTo p.transition (x + 1) = true <;> simp [h]
  have hjunctions := junctionBounds_iff c p l x v
  simp only [planSpeed, hl, le_leastOf_iff, List.forall_mem_append, le_backwardBounds_iff, le_forwardBounds_iff, hlimit]
  simp only [← legAcceleration_eq c l] at hjunctions ⊢
  constructor
  · rintro ⟨hlim, ⟨hcr, hstop, hahead, htr⟩, hanchor, hbehind, hpast⟩
    exact ⟨hlim, hcreep.mp hcr, hstop, htr, hjunctions.mp ⟨hahead, hbehind⟩, hanchor, hpast⟩
  · rintro ⟨hlim, hcr, hstop, htr, hjunction, hanchor, hpast⟩
    obtain ⟨hahead, hbehind⟩ := hjunctions.mpr hjunction
    exact ⟨hlim, ⟨hcreep.mpr hcr, hstop, hahead, htr⟩, hanchor, hbehind, hpast⟩

/-- The planned speed is the greatest that meets every bound (R90). -/
theorem planSpeed_greatest {c : ConfigRec} {p : Plan} {x : Int} {i : Nat} {l : Leg} (hi : p.legs[i]? = some l)
    (hlo : legStart p.legs i ≤ x) (hhi : x < legStart p.legs (i + 1) ∨ i + 1 = p.legs.length) :
    MeetsEveryBound c p l x (planSpeed c p x) ∧ ∀ v, MeetsEveryBound c p l x v → v ≤ planSpeed c p x :=
  have hl := legAt_eq hi hlo hhi
  ⟨(le_planSpeed_iff hl _).mp (le_refl _), fun v => (le_planSpeed_iff hl v).mpr⟩

/-! ## The plan made over a queue (R82 to R87) -/

theorem cornerFactor_eq (cMin d : Nat) : cornerFactor cMin d = cornerPercent cMin d := by
  unfold cornerFactor cornerPercent
  split
  · rfl
  · split <;> split <;> omega

/-- Linking changes only the junctions of the legs. -/
theorem linkLegs_get (c : ConfigRec) (ls : List (Leg × Nat)) (i : Nat) :
    (linkLegs c ls)[i]? = ls[i]?.map (fun a => match ls[i + 1]? with
      | none => a.1
      | some b => { a.1 with
          junction := junctionLimit c b.2 Leg.limit a.1 b.1, formerJunction := junctionLimit c b.2 Leg.former a.1 b.1
          delta := legDelta a.1 b.1 }) := by
  induction ls generalizing i with
  | nil => simp [linkLegs]
  | cons a ls ih =>
    cases ls with
    | nil => cases i <;> simp [linkLegs]
    | cons b ls =>
      cases i with
      | zero => simp [linkLegs]
      | succ i => simpa [linkLegs] using ih i

theorem linkLegs_length (c : ConfigRec) (ls : List (Leg × Nat)) : (linkLegs c ls).length = ls.length := by
  induction ls with
  | nil => rfl
  | cons a ls ih =>
    cases ls with
    | nil => rfl
    | cons b ls => simpa [linkLegs] using ih

/-- With no approach and no Recovery Path the plan path is the queue's entries, each whole (R82). -/
theorem planLegs_queue {s : State} (hrec : s.queue.recPath = []) (happ : s.plan.approach = none) :
    planLegs s = linkLegs s.cfg (s.queue.entries.map (fun e => (entryLeg s e, entryCMin s e))) := by
  unfold planLegs queueLegs
  rw [hrec, happ]
  cases s.queue.entries with
  | nil => rfl
  | cons e es => simp [entryLeg]

/-- The limit of a cutting entry is that of R83 and R84. -/
theorem entryLimit_cutting {s : State} {e : QueueEntry} {m : MaterialRec} {k : Nat} (hc : e.kind.cutting = true)
    (hm : s.entryMaterial e = some m) (hq : e.quality = some k) (h1 : 1 ≤ k) (h5 : k ≤ 5) :
    entryLimit s e = segmentLimit m s.job.override k e.shape := by
  have hspeed : m.speed k = if k = 1 then m.q1 else if k = 2 then m.q2 else if k = 3 then m.q3
      else if k = 4 then m.q4 else m.q5 := by
    obtain rfl | rfl | rfl | rfl | rfl : k = 1 ∨ k = 2 ∨ k = 3 ∨ k = 4 ∨ k = 5 := by omega
    all_goals rfl
  have hlim : entryLimit s e = max 1 (cutLimit m s.job.override k (e.shape.bind Shape.arc)) := by
    unfold entryLimit limitWith
    cases hk : e.kind <;> simp_all [SegKind.cutting]
  rw [hlim]
  unfold cutLimit segmentLimit
  simp only [← hspeed]
  cases e.shape.bind Shape.arc with
  | none => rfl
  | some a =>
    dsimp only
    split <;> rfl

/-- The tangents of an entry's leg are those of its shape (R86). -/
theorem entryLeg_delta (s : State) (e f : QueueEntry) :
    legDelta (entryLeg s e) (entryLeg s f) = deflection (e.shape.bind exitTangent) (f.shape.bind entryTangent) := by
  have hexit : (entryLeg s e).exit = e.shape.bind exitTangent := by cases h : e.shape <;> simp [Leg.exit, entryLeg, h]
  have henter : (entryLeg s f).enter = f.shape.bind entryTangent := by
    cases h : f.shape <;> simp [Leg.enter, entryLeg, h]
  rw [legDelta, if_neg (by simp [entryLeg]), hexit, henter]

/-- R82 to R87 for the plan made over a queue. -/
theorem planLegs_plannedOverQueue {s : State} (hrec : s.queue.recPath = []) (happ : s.plan.approach = none) :
    PlannedOverQueue s (planLegs s) := by
  rw [planLegs_queue hrec happ]
  have hget := linkLegs_get s.cfg (s.queue.entries.map (fun e => (entryLeg s e, entryCMin s e)))
  constructor
  · simp [linkLegs_length]
  · intro i e l he hl
    rw [hget, List.getElem?_map (i := i), he] at hl
    obtain ⟨hshape, hlen, hcut, hend, hlimit⟩ : l.shape = e.shape ∧ l.len = (e.shape.map Shape.length).getD 0
        ∧ l.cutting = e.kind.cutting ∧ l.isEnd = (e.kind == .segEnd) ∧ l.limit = entryLimit s e := by
      simp only [Option.map_some, Option.some.injEq] at hl
      split at hl <;> subst hl <;> exact ⟨rfl, rfl, rfl, rfl, rfl⟩
    refine ⟨hshape, hlen, hcut, by simp [hend], fun ht => ?_, fun m k hc hm hq h1 h5 => ?_⟩
    · rw [hlimit]
      simp [entryLimit, limitWith, ht]
    · rw [hlimit, entryLimit_cutting hc hm hq h1 h5]
  · intro i e f a b he hf ha hb
    obtain ⟨hjunction, halim⟩ : a.junction = junctionLimit s.cfg (entryCMin s f) Leg.limit (entryLeg s e) (entryLeg s f)
        ∧ a.limit = entryLimit s e := by
      simp only [hget, List.getElem?_map, he, hf, Option.map_some, Option.some.injEq] at ha
      exact ⟨by rw [← ha], by rw [← ha]; rfl⟩
    have hblim : b.limit = entryLimit s f := by
      simp only [hget, List.getElem?_map, hf, Option.map_some, Option.some.injEq] at hb
      split at hb <;> subst hb <;> rfl
    rw [hjunction, halim, hblim]
    simp only [junctionLimit, entryLeg_delta]
    refine ⟨fun hd => by rw [hd], fun d m hd hce hcf hm => ?_, fun d hd hte htf => ?_⟩
    · rw [hd]
      simp [entryLeg, hce, hcf, entryCMin, hm, cornerFactor_eq]
    · rw [hd]
      simp [entryLeg, hte, htf, SegKind.cutting, Leg.isTraverse]

/-! ## Deflections (R86) -/

theorem atanTerms_zero (y2 h f k : Nat) : atanTerms y2 h f k 0 = 0 := by
  induction f generalizing k with
  | zero => rfl
  | succ f ih => simp [atanTerms, ih]

/-- The angle of a direction along the axis of the arctangent is 0. -/
theorem atanLow_zero (x : Nat) : atanLow 0 x = 0 := by simp [atanLow, atanTerms_zero]

theorem natAbs_sq_add (v w : Vec) :
    (cross v w) * (cross v w) + (dot v w) * (dot v w) = ((normSq v * normSq w : Nat) : Int) := by
  unfold cross dot normSq
  push_cast [← sq, sq_abs]
  ring

/-- Two directions with lengths do not have both products 0. -/
theorem cross_ne_zero_of_dot {v w : Vec} (hv : normSq v ≠ 0) (hw : normSq w ≠ 0) (hd : dot v w = 0) : cross v w ≠ 0 := by
  intro hc
  have h := natAbs_sq_add v w
  rw [hc, hd] at h
  have : normSq v * normSq w = 0 := by exact_mod_cast h.symm
  simp_all

theorem piScaled_large : 1800 < piScaled := by decide +kernel

/-- R86: straight on, a right angle and a turn back. -/
theorem deflectionRule : DeflectionRule := by
  have hpi := piScaled_large
  constructor
  · intro v w hv hw
    have hdef : deflection (some v) (some w) = some (deflectionOf v w) := by simp [deflection, hv, hw]
    rw [hdef]
    refine ⟨fun hc hd => ?_, fun hd => ?_, fun hc hd => ?_⟩
    · have hangle : angleOf ((cross v w).natAbs : Int) (dot v w) = 0 := by
        simp [angleOf, hc, hd.ne', hd.le, atanQuadrant, atanLow_zero]
      rw [deflectionOf, hangle, Option.some.injEq, Nat.div_eq_zero_iff]
      omega
    · have hc := cross_ne_zero_of_dot hv hw hd
      have hangle : angleOf ((cross v w).natAbs : Int) (dot v w) = piScaled / 2 := by
        simp [angleOf, hd, hc, atanQuadrant, atanLow_zero]
      rw [deflectionOf, hangle, Option.some.injEq]
      generalize piScaled = p at *
      refine Nat.div_eq_of_lt_le ?_ ?_ <;> omega
    · have hangle : angleOf ((cross v w).natAbs : Int) (dot v w) = piScaled := by
        simp [angleOf, hc, hd.ne, not_le.mpr hd, atanQuadrant, atanLow_zero]
      rw [deflectionOf, hangle, Option.some.injEq]
      refine Nat.div_eq_of_lt_le ?_ ?_ <;> omega
  · intro sh
    refine ⟨fun h0 => by simp [entryTangent, exitTangent, h0], fun hpos hline => ?_, fun a hpos harc => ?_⟩
    · simp [entryTangent, exitTangent, hpos.ne', hline, vecTo]
    · cases hccw : a.ccw <;> simp [entryTangent, exitTangent, hpos.ne', harc, arcTangent, vecTo, hccw]

end Sys2Proof.Machine
end

section
/-! PROOFS. One interpolation period (R103 to R113), said once for a head that stands at a stop and once for a head that
takes a step, and the valve switch that closes the jet (R131). -/

namespace Sys2Proof.Machine

open Sys2Proof

/-! ## The end of a command -/

/-- `t` is `v` but for the lamps and the link. -/
structure EndsAs (v t : State) : Prop where
  job : t.job = v.job
  queue : t.queue = v.queue
  plan : t.plan = v.plan
  axis : t.axis = v.axis
  jet : t.jet = v.jet
  pump : t.pump = v.pump
  wear : t.wear = v.wear
  lines : t.lines = v.lines
  config : t.config = v.config
  tables : t.tables = v.tables

/-- A command that has come from `s` to `v` by the posts of `l` ends in `v`, but for the lamps with their report and what
the transmitter then begins (R163, R176). -/
theorem wrapUp_ends {s v : State} {l : List Report} (h : Posts s v l) :
    EndsAs v (wrapUp v) ∧ ∃ m, (wrapUp v).link = linkAfter s.link (l ++ m) none ∧ ∀ r ∈ m, r.kindByte = 0x95 := by
  have k := lampDerive_keeps v
  obtain ⟨m, hm, hz⟩ := lampDerive_posts v
  exact ⟨⟨k.job rfl, k.queue rfl, k.plan rfl, k.axis rfl, k.jet rfl, k.pump rfl, k.wear rfl, k.lines rfl, k.config,
    k.tables⟩, m, (h.trans hm).link_kick, hz⟩

/-! ## Following error (R112, R113) -/

/-- Within the warn limit no check of the following error is met. -/
theorem followCheck_within {s : State} {c : ConfigRec} (hc : s.config = some c)
    (hw : WithinWarn c s.axis.setPoint s.axis.actual) :
    followCheck s = s.setAxis { s.axis with beyondX := false, beyondY := false } := by
  obtain ⟨hx, hy, hlim⟩ := hw
  change followError s.axis.setPoint.x s.axis.actual.x ≤ c.warnLimit at hx
  change followError s.axis.setPoint.y s.axis.actual.y ≤ c.warnLimit at hy
  have hcfg : s.cfg = c := by simp [State.cfg, hc]
  simp [followCheck, followDetail, State.configured, hc, hcfg, Nat.not_lt.mpr hx, Nat.not_lt.mpr hy,
    Nat.not_lt.mpr (hx.trans hlim), Nat.not_lt.mpr (hy.trans hlim)]

/-! ## The close point (R99) -/

theorem closeWatch_not_open {s : State} (h : s.jet.state ≠ .opened) :
    closeWatch s = s.setPlan { s.plan with closePoint := none } := by
  simp [closeWatch, h]

theorem closeCommand_link (s : State) : (closeCommand s).link = s.link := by
  unfold closeCommand endSequence pumpSequence ladder
  dsimp only
  repeat' split
  all_goals rfl

theorem closeCommand_contour (s : State) : (closeCommand s).jet.contour = s.jet.contour := by
  unfold closeCommand endSequence pumpSequence ladder
  dsimp only
  repeat' split
  all_goals rfl

/-- Handing the close point over commits the stop there, which does not move. -/
theorem commitAt_stops (q : Int) (s : State) :
    (commitAt q s).plan.stops.map Stop.pos = s.plan.stops.map Stop.pos := by
  simp only [commitAt, State.setPlan_plan, List.map_map]
  refine List.map_congr_left fun t _ => ?_
  simp only [Function.comp]
  split <;> rfl

/-- The close point is set or dropped, or handed over with the close command (R99). -/
theorem closeWatch_cases (s : State) :
    (∃ point, closeWatch s = s.setPlan { s.plan with closePoint := point })
    ∨ ∃ q, closeWatch s = closeCommand (commitAt q (s.setPlan { s.plan with closePoint := none })) := by
  unfold closeWatch
  split
  · cases cutStop s with
    | none => exact .inl ⟨_, rfl⟩
    | some q =>
      dsimp only
      generalize (if s.cfg.closeAhead = 0 then _ else _ : Bool) = reached
      cases reached
      · exact .inl ⟨_, rfl⟩
      · exact .inr ⟨q, rfl⟩
  · exact .inl ⟨_, rfl⟩

/-- The close point posts nothing, and keeps the contour record, the legs and where the stops lie. -/
theorem closeWatch_frame (s : State) :
    Posts s (closeWatch s) [] ∧ (closeWatch s).jet.contour = s.jet.contour ∧ (closeWatch s).plan.legs = s.plan.legs
    ∧ (closeWatch s).plan.stops.map Stop.pos = s.plan.stops.map Stop.pos := by
  obtain ⟨point, h⟩ | ⟨q, h⟩ := closeWatch_cases s
  · rw [h]
    exact ⟨rfl, rfl, rfl, rfl⟩
  · rw [h, (closeCommand_keeps _).plan rfl]
    exact ⟨posts_nil (closeCommand_link _), closeCommand_contour _, rfl, commitAt_stops ..⟩

/-! ## Motion along the plan path -/

/-- The head follows the plan path in RUN or HOLD, under the Configure record `c` (R103). -/
structure FollowsPath (s : State) (c : ConfigRec) : Prop where
  config : s.config = some c
  frozen : s.axis.frozen = false
  stopRun : s.axis.stopRun = none
  homing : s.axis.homing = none
  state : s.job.state = .run ∨ s.job.state = .hold

theorem FollowsPath.motion_eq {s : State} {c : ConfigRec} (h : FollowsPath s c) : motion s = pathPeriod s := by
  simp only [motion, State.configured, h.config, h.frozen, h.stopRun, h.homing]
  rcases h.state with hs | hs <;> simp [hs]

/-- A stop at the head's position leaves no distance to go. -/
theorem distanceAhead_at_stop {c : ConfigRec} {p : Plan} {pathPos : Nat} {u : Stop} (hu : u ∈ p.allStops)
    (h : 60 * u.pos = (pathPos : Int)) : distanceAhead c p pathPos = 0 := by
  refine Nat.le_zero.mp (leastOf_le (List.mem_append_left _ (List.mem_map.mpr ⟨u, ?_, by simp [h]⟩)))
  simp [hu, h]

/-- At a stop the step is 0 (R103, R104). -/
theorem pathStep_at_stop {c : ConfigRec} {p : Plan} {pathPos : Nat} {u : Stop} (speed : Nat) (hu : u ∈ p.allStops)
    (h : 60 * u.pos = (pathPos : Int)) : pathStep c p pathPos speed = 0 := by
  simp [pathStep, distanceAhead_at_stop hu h]

/-- There is a stop where the head stands, or no path before it. -/
def AtStop (s : State) : Prop := s.plan.legs = [] ∨ ∃ u ∈ s.plan.allStops, 60 * u.pos = (s.axis.pathPos : Int)

/-- A head at a stop stays there, at its point (R104 to R106), unless it completes an entry of length 0. -/
theorem pathPeriod_at_stop {s : State} (hstop : AtStop s) (hzero : zeroLeg s = none ∨ mayStep s = false)
    (hback : s.queue.recBack = false) :
    pathPeriod s = s.setAxis { s.axis with speed := 0, setPoint := pointHere s } := by
  unfold pathPeriod
  cases hm : mayStep s with
  | false =>
    have hpoint : pointHere s = s.axis.setPoint := by
      unfold mayStep at hm
      unfold pointHere
      cases hl : s.plan.legs with
      | nil => rfl
      | cons l ls => simp_all
    rw [if_neg (by simp), hpoint]
  | true =>
    have hz : zeroLeg s = none := hzero.resolve_right (by simp [hm])
    cases hl : s.plan.legs with
    | nil => simp [mayStep, hl] at hm
    | cons l ls =>
      obtain ⟨u, hu, hpos⟩ := hstop.resolve_left (by simp [hl])
      simp only [if_true, hz, pathStep_at_stop _ hu hpos, Nat.add_zero, pathPoint, hback, placeHead, State.setAxis_plan,
        State.setAxis_queue, State.setAxis_axis, hl, pointHere, Bool.false_eq_true, if_false, State.headPos]
      split <;> rfl

/-- The state in which a period leaves a head that stands at a stop, before what arrival and standstill bring. -/
def stoodPeriod (fb : Point) (homeX homeY : Bool) (s : State) : State :=
  { s with
    lines := { s.lines with feedback := fb, homeX := homeX, homeY := homeY }
    plan := { s.plan with closePoint := none }
    axis := { s.axis with
      actual := ⟨fb.x + s.axis.offset.x, fb.y + s.axis.offset.y⟩, speed := 0, setPoint := pointHere s, beyondX := false
      beyondY := false } }

/-- A period at a stop, the jet not OPEN and the errors within the warn limit (R103, R104, R112). -/
theorem period_at_stop {s : State} {c : ConfigRec} {fb : Point} (homeX homeY : Bool) (hp : FollowsPath s c)
    (hstop : AtStop s) (hzero : zeroLeg s = none ∨ mayStep s = false) (hback : s.queue.recBack = false)
    (hjet : s.jet.state ≠ .opened)
    (hw : WithinWarn c (pointHere s) ⟨fb.x + s.axis.offset.x, fb.y + s.axis.offset.y⟩) :
    period fb homeX homeY s = settle (arrive (stoodPeriod fb homeX homeY s)) := by
  have hp' : FollowsPath (sample fb homeX homeY s) c := ⟨hp.config, hp.frozen, hp.stopRun, hp.homing, hp.state⟩
  have hpath := pathPeriod_at_stop (s := sample fb homeX homeY s) hstop hzero hback
  unfold period
  rw [hp'.motion_eq, hpath, 
    followCheck_within (s := (sample fb homeX homeY s).setAxis {
      (sample fb homeX homeY s).axis with speed := 0, setPoint := pointHere (sample fb homeX homeY s) }) hp.config hw]
  exact congrArg (fun v => settle (arrive v)) (closeWatch_not_open hjet)

/-! ## A step (R103) -/

/-- The step R103 gives: the greater of the planned speeds behind and ahead, and no farther than the next standstill. -/
def stepLength (c : ConfigRec) (p : Plan) (pathPos : Nat) : Nat :=
  min (max (planSpeed c p ((pathPos / 60 : Nat) : Int)) (planSpeed c p (((pathPos / 60 : Nat) : Int) + 1)))
    (distanceAhead c p pathPos)

/-- A step above 0 that no junction of limit 0 withholds is that of R103 (R87; log entry 12). -/
theorem pathStep_eq {c : ConfigRec} {p : Plan} {l : Leg} {ls : List Leg} {pathPos : Nat} (speed : Nat)
    (hl : p.legs = l :: ls) (hlen : pathPos < 60 * l.len)
    (ha : ∀ a ∈ p.anchors, 60 * a.pos = (pathPos : Int) → a.speed ≠ 0) (hstep : 0 < stepLength c p pathPos) :
    pathStep c p pathPos speed = stepLength c p pathPos := by
  have hzero : onZeroJunction c p pathPos = false := by
    simp only [onZeroJunction, Bool.or_eq_false_iff, List.any_eq_false, Bool.and_eq_true, beq_iff_eq, not_and]
    refine ⟨fun a hm hpos => by simpa using ha a hm hpos, fun j hj hpos => ?_⟩
    have := junction_pos_ge hl hj
    omega
  unfold stepLength at *
  simp only [pathStep, hzero, Bool.false_eq_true, and_false, if_false]
  rw [if_neg (by omega)]

/-- A moving head takes its step from the leg it is on (R103). -/
theorem pathPeriod_steps {s : State} {l : Leg} {ls : List Leg} (hspeed : 0 < s.axis.speed) (hl : s.plan.legs = l :: ls)
    (hlen : s.axis.pathPos < 60 * l.len)
    (ha : ∀ a ∈ s.plan.anchors, 60 * a.pos = (s.axis.pathPos : Int) → a.speed ≠ 0)
    (hstep : 0 < stepLength s.cfg s.plan s.axis.pathPos) :
    pathPeriod s = recoveryPassed (takeStep (beginTraverse l (s.setAxis { s.axis with
      pathPos := s.axis.pathPos + stepLength s.cfg s.plan s.axis.pathPos
      speed := stepLength s.cfg s.plan s.axis.pathPos }))) := by
  have hm : mayStep s = true := by simp [mayStep, hl, hspeed.ne']
  have hz : zeroLeg s = none := by simp [zeroLeg, hl, hspeed.ne']
  simp only [pathPeriod, hm, if_true, hz, pathStep_eq s.axis.speed hl hlen ha hstep, if_neg hstep.ne', State.setAxis_plan,
    hl]

theorem recoveryPassed_none {s : State} (h : s.jet.recovery = none) : recoveryPassed s = s := by
  simp [recoveryPassed, h]

/-- With no recovery pending, beginning a TRAVERSE ends the contour and nothing else (R130). -/
theorem beginTraverse_eq {s : State} (l : Leg) (h : s.jet.recovery = none) :
    beginTraverse l s =
      s.setJet { s.jet with contour := if l.isTraverse then none else s.jet.contour } := by
  unfold beginTraverse endContour
  split
  · simp only [h, Option.filter_none]
  · rfl

/-- A period in RUN in which the head moves on: neither arrival nor standstill has its turn (R100, R112). -/
theorem period_moving {s : State} {c : ConfigRec} {fb : Point} (homeX homeY : Bool) (hp : FollowsPath s c)
    (hrun : s.job.state = .run) {v : State} (hv : pathPeriod (sample fb homeX homeY s) = v) (hmoving : v.axis.speed ≠ 0)
    (hw : WithinWarn c v.axis.setPoint v.axis.actual) :
    period fb homeX homeY s = closeWatch (v.setAxis { v.axis with beyondX := false, beyondY := false }) := by
  have hp' : FollowsPath (sample fb homeX homeY s) c := ⟨hp.config, hp.frozen, hp.stopRun, hp.homing, hp.state⟩
  have kv := pathPeriod_keeps (sample fb homeX homeY s)
  rw [hv] at kv
  have kw := closeWatch_keeps (v.setAxis { v.axis with beyondX := false, beyondY := false })
  unfold period
  rw [hp'.motion_eq, hv, followCheck_within (kv.config.trans hp.config) hw]
  have hspeed : (closeWatch (v.setAxis { v.axis with beyondX := false, beyondY := false })).axis.speed ≠ 0 := by
    rw [kw.axis rfl]; exact hmoving
  rw [arrive, if_neg (fun h => hspeed h.1)]
  refine settle_run_eq ?_ (.inr (.inl hspeed))
  rw [kw.job rfl]
  exact (congrArg Job.state (kv.job rfl)).trans hrun

end Sys2Proof.Machine
end

section
/-! PROOFS. A step within an entry (R103 to R106), and the end of the entry at the queue head (R42, R44). -/

namespace Sys2Proof.Machine

open Sys2Proof

/-! ## A step taken -/

/-- The head `n` sixtieths of a µm farther along the leg `l`, before the set-point and the queue follow (R103, R130). -/
def movedBy (fb : Point) (homeX homeY : Bool) (l : Leg) (n : Nat) (s : State) : State :=
  { s with
    lines := { s.lines with feedback := fb, homeX := homeX, homeY := homeY }
    jet := { s.jet with contour := if l.isTraverse then none else s.jet.contour }
    axis := { s.axis with
      actual := ⟨fb.x + s.axis.offset.x, fb.y + s.axis.offset.y⟩, pathPos := s.axis.pathPos + n, speed := n } }

/-- What the path does in a period that begins on the move, with no recovery pending (R103). -/
theorem pathPeriod_moved {s : State} {l : Leg} {ls : List Leg} {fb : Point} (homeX homeY : Bool)
    (hspeed : 0 < s.axis.speed) (hl : s.plan.legs = l :: ls) (hlen : s.axis.pathPos < 60 * l.len)
    (ha : ∀ a ∈ s.plan.anchors, 60 * a.pos = (s.axis.pathPos : Int) → a.speed ≠ 0)
    {n : Nat} (hn : stepLength s.cfg s.plan s.axis.pathPos = n) (hstep : 0 < n) (hrec : s.jet.recovery = none)
    {v : State} (hv : takeStep (movedBy fb homeX homeY l n s) = v)
    (hvrec : v.jet.recovery = none) : pathPeriod (sample fb homeX homeY s) = v := by
  subst hn
  calc pathPeriod (sample fb homeX homeY s) = recoveryPassed (takeStep (beginTraverse l _)) :=
        pathPeriod_steps (s := sample fb homeX homeY s) hspeed hl hlen ha hstep
    _ = recoveryPassed (takeStep (movedBy fb homeX homeY l _ s)) :=
        congrArg (fun u => recoveryPassed (takeStep u)) (beginTraverse_eq l hrec)
    _ = recoveryPassed v := congrArg recoveryPassed hv
    _ = v := recoveryPassed_none hvrec

/-- A period that ends on the move leaves what its motion `v` left, but for the error flags, the close point with what
it hands over, and the lamps (R99, R112, R163). -/
theorem exec_period_moving {s v : State} {c : ConfigRec} {fb : Point} (homeX homeY : Bool) {l : List Report}
    (hp : FollowsPath s c) (hrun : s.job.state = .run) (hv : pathPeriod (sample fb homeX homeY s) = v)
    (hposts : Posts s v l) (hmoving : v.axis.speed ≠ 0) (hw : WithinWarn c v.axis.setPoint v.axis.actual) :
    ∃ t m, exec (.interpolationPeriod fb.x fb.y homeX homeY) s = .next t ∧ t.link = linkAfter s.link (l ++ m) none
      ∧ (∀ r ∈ m, r.kindByte = 0x95) ∧ t.job = v.job ∧ t.axis = { v.axis with beyondX := false, beyondY := false }
      ∧ t.queue = v.queue ∧ t.tables = v.tables ∧ t.config = v.config ∧ t.wear = v.wear ∧ t.plan.legs = v.plan.legs
      ∧ t.plan.stops.map Stop.pos = v.plan.stops.map Stop.pos ∧ t.jet.contour = v.jet.contour := by
  have k := closeWatch_keeps (v.setAxis { v.axis with beyondX := false, beyondY := false })
  obtain ⟨hclose, hcontour, hlegs, hstops⟩ := closeWatch_frame (v.setAxis { v.axis with beyondX := false, beyondY := false })
  have hsame : Posts v (v.setAxis { v.axis with beyondX := false, beyondY := false }) [] := rfl
  obtain ⟨ht, m, hlink, hlamps⟩ := wrapUp_ends (hposts.trans (hsame.trans hclose))
  refine ⟨_, m, congrArg (fun w => Host.Outcome.next (wrapUp w)) (period_moving homeX homeY hp hrun hv hmoving hw), ?_,
    hlamps, ht.job.trans (k.job rfl), ht.axis.trans (k.axis rfl), ht.queue.trans (k.queue rfl),
    ht.tables.trans k.tables, ht.config.trans k.config, ht.wear.trans (k.wear rfl), ?_, ?_, ?_⟩
  · rw [hlink]; simp
  · rw [ht.plan]; exact hlegs
  · rw [ht.plan]; exact hstops
  · rw [ht.jet]; exact hcontour

/-! ## Within an entry -/

/-- The point of an entry's leg, its end exactly at its length (R105). -/
theorem Leg.pointAt_entry {l : Leg} {sh : Shape} (hk : l.kind = .entry) (hbase : l.base = 0) (hsh : l.shape = some sh)
    (d : Nat) : l.pointAt d = some (if d = sh.length then sh.stop else Machine.pointAt sh d) := by
  simp [Leg.pointAt, hsh, hk, hbase]

/-- A step that ends short of the first leg's end crosses nothing. -/
theorem crossLegs_within {s : State} {l : Leg} {ls : List Leg} (n : Nat) (hl : s.plan.legs = l :: ls)
    (h : s.axis.pathPos < 60 * l.len) : crossLegs n s = s := by
  cases n with
  | zero => rfl
  | succ n =>
    unfold crossLegs
    rw [hl]
    exact if_neg (fun g => by omega)

/-- A step within an entry: the set-point and the progress follow the head (R41, R106). -/
theorem takeStep_within {s : State} {l : Leg} {ls : List Leg} {sh : Shape} (hl : s.plan.legs = l :: ls)
    (hk : l.kind = .entry) (hbase : l.base = 0) (hsh : l.shape = some sh) (hlen : sh.length = l.len)
    (hback : s.queue.recBack = false) (hpos : 0 < s.axis.pathPos) (hend : s.axis.pathPos < 60 * l.len) :
    takeStep s = { s with
      axis := { s.axis with setPoint := Machine.pointAt sh (s.axis.pathPos / 60) }
      queue := { s.queue with progress := s.axis.pathPos / 60 } } := by
  have hpoint : l.pointAt (s.axis.pathPos / 60) = some (Machine.pointAt sh (s.axis.pathPos / 60)) := by
    rw [Leg.pointAt_entry hk hbase hsh, if_neg (by omega)]
  simp [takeStep, crossLegs_within _ hl hend, pathPoint, placeHead, takeProgress, hback, hl, hk, hbase, hpos.ne',
    State.headPos, hpoint]
  rfl

/-- A period within an entry (R41, R103, R105, R106). -/
theorem period_within_entry {s : State} {c : ConfigRec} {l : Leg} {ls : List Leg} {sh : Shape} {fb : Point}
    (homeX homeY : Bool) (hp : FollowsPath s c) (hrun : s.job.state = .run) (hspeed : 0 < s.axis.speed)
    (hl : s.plan.legs = l :: ls) (hk : l.kind = .entry) (hbase : l.base = 0) (hsh : l.shape = some sh)
    (hlen : sh.length = l.len) (hback : s.queue.recBack = false) (hrec : s.jet.recovery = none)
    (ha : ∀ a ∈ s.plan.anchors, 60 * a.pos = (s.axis.pathPos : Int) → a.speed ≠ 0) {n : Nat}
    (hn : stepLength c s.plan s.axis.pathPos = n) (hstep : 0 < n) (hend : s.axis.pathPos + n < 60 * l.len)
    (hw : WithinWarn c (Machine.pointAt sh ((s.axis.pathPos + n) / 60))
      ⟨fb.x + s.axis.offset.x, fb.y + s.axis.offset.y⟩) :
    ∃ t posted, exec (.interpolationPeriod fb.x fb.y homeX homeY) s = .next t ∧ t.link = linkAfter s.link posted none
      ∧ t.job = s.job
      ∧ t.axis = { s.axis with
          actual := ⟨fb.x + s.axis.offset.x, fb.y + s.axis.offset.y⟩, pathPos := s.axis.pathPos + n, speed := n
          setPoint := Machine.pointAt sh ((s.axis.pathPos + n) / 60), beyondX := false, beyondY := false }
      ∧ t.queue = { s.queue with progress := (s.axis.pathPos + n) / 60 }
      ∧ t.tables = s.tables ∧ t.config = s.config ∧ t.wear = s.wear ∧ t.plan.legs = s.plan.legs
      ∧ t.plan.stops.map Stop.pos = s.plan.stops.map Stop.pos := by
  have hcfg : s.cfg = c := by simp [State.cfg, hp.config]
  have htake := takeStep_within (s := movedBy fb homeX homeY l n s) hl hk hbase hsh hlen hback
    (Nat.add_pos_right _ hstep) hend
  have hpath := pathPeriod_moved homeX homeY hspeed hl (by omega) ha (by rw [hcfg, hn]) hstep hrec htake hrec
  obtain ⟨t, m, ht, hlink, -, hjob, haxis, hqueue, htables, hconfig, hwear, hlegs, hstops, -⟩ :=
    exec_period_moving homeX homeY hp hrun hpath (l := []) rfl hstep.ne' hw
  exact ⟨t, _, ht, hlink, hjob, haxis, hqueue, htables, hconfig, hwear, hlegs, hstops⟩

/-- Settles O52: a step within an entry, the greatest planned speed, the plan over a queue and the deflections of
R86. -/
theorem periodAdvancesAlongTheEntry : Obligations.PeriodAdvancesAlongTheEntry := by
  refine ⟨?_, fun c p x i l hi hlo hhi => planSpeed_greatest hi hlo hhi,
    fun s hrec happ => planLegs_plannedOverQueue hrec happ, deflectionRule⟩
  intro fbX fbY homeX homeY s c l ls sh hrun _ hc hfrozen hstop hhoming hspeed hl hk _ hbase hsh hlen _ hback hrec ha x
    step pos point hstep hend hx hy hlim
  have hpoint : point = pointAt sh (pos / 60) := if_neg (by omega)
  rw [hpoint] at hx hy ⊢
  exact period_within_entry (fb := ⟨fbX, fbY⟩) homeX homeY ⟨hc, hfrozen, hstop, hhoming, .inl hrun⟩ hrun hspeed hl hk
    hbase hsh hlen hback hrec ha rfl hstep hend ⟨hx, hy, hlim⟩

end Sys2Proof.Machine
end

section
/-! PROOFS. A step that reaches the end of the entry at the queue head (R42, R44, R93, R130). -/

namespace Sys2Proof.Machine

open Sys2Proof

/-! ## Retirement of the queue head -/

/-- What retiring a queue head other than an END does: the queue's retirement, the contour end taken over as the contour
start, and the RETIRED report (R42, R130). -/
theorem retireHead_of_head {s : State} {e : QueueEntry} (limit : Nat) (he : s.queueHead = some e)
    (hk : e.kind ≠ .segEnd) :
    (retireHead limit s).queue
        = (retireEntry e ((s.jet.contour.map ContourRec.start).getD 0) (some limit) s).queue
    ∧ (retireHead limit s).jet = {
        s.jet with contour :=
          if e.kind.cutting then
            s.jet.contour.map (fun c => {
              c with start := (s.jet.contour.map ContourRec.start).getD 0 + (e.shape.map Shape.length).getD 0 })
          else s.jet.contour }
    ∧ Posts s (retireHead limit s) (if e.report then [.retired e.seq e.pidx e.tag] else []) := by
  have hjet := (retireEntry_keeps e ((s.jet.contour.map ContourRec.start).getD 0) (some limit) s).jet rfl
  simp only [retireHead, he, if_neg hk]
  split
  · exact ⟨rfl, by rw [State.setJet_jet, hjet], retireEntry_posts ..⟩
  · exact ⟨rfl, hjet, retireEntry_posts ..⟩

/-- The Retired History is a ring: the oldest of 32 entries gives way (R44). -/
theorem pushHistory_eq {h : List HistEntry} (e : HistEntry) (hlen : h.length ≤ 32) :
    pushHistory h e = h.drop (if 32 ≤ h.length then 1 else 0) ++ [e] := by
  unfold pushHistory
  split
  · next h32 => rw [show h.length + 1 - 32 = 1 by omega]
  · rfl

/-- The history copy of an entry with a shape, with the limit applied to it (Table 2-4). -/
def retiredCopy (s : State) (e : QueueEntry) (sh : Shape) (start limit : Nat) : HistEntry :=
  { seq := e.seq, pidx := e.pidx, kind := e.kind, shape := sh
    contour := if e.kind.cutting = true then some (start, start + sh.length) else none
    limit := some limit
    pressures := if e.kind.cutting = true then (s.entryMaterial e).map (fun m => (m.pPierce, m.pCut)) else none
    rate := if e.kind.cutting = true then (s.entryMaterial e).map MaterialRec.rate else none
    opens := e.opens }

theorem historyEntry_of_shape {s : State} {e : QueueEntry} {sh : Shape} (start limit : Nat) (h : e.shape = some sh) :
    historyEntry s e start (some limit) = retiredCopy s e sh start limit := by
  simp [historyEntry, retiredCopy, h]

/-! ## The step over the end -/

/-- The limit the planner applied to a leg's end: the former one where it lies up to a transition point (R93). -/
def limitAtEnd (p : Plan) (l : Leg) : Nat := if upTo p.transition l.len then l.former else l.limit

/-- The Segment Queue after its head `e` has retired and the head gone `progress` µm into the next entry. -/
def queueAfterEnd (s : State) (e : QueueEntry) (es : List QueueEntry) (sh : Shape) (limit progress : Nat) : SegQueue :=
  { s.queue with
    entries := es, uses := bumpUse s.queue.uses e.slot (· - 1), progress := progress
    history := pushHistory s.queue.history
      (retiredCopy s e sh ((s.jet.contour.map ContourRec.start).getD 0) limit) }

/-- The contour record after an entry has retired (R130). -/
def contourAfterEnd (j : Jet) (e : QueueEntry) (sh : Shape) : Option ContourRec :=
  if e.kind.cutting then j.contour.map (fun k => { k with start := k.start + sh.length }) else j.contour

/-- What the head does at the end of the entry at the queue head (R42, R44, R105, R130). -/
theorem finishLeg_entry {s : State} {e : QueueEntry} {es : List QueueEntry} {l : Leg} {ls : List Leg} {sh : Shape}
    (he : s.queue.entries = e :: es) (hshape : e.shape = some sh) (hend : e.kind ≠ .segEnd)
    (hl : s.plan.legs = l :: ls) (hk : l.kind = .entry) (hbase : l.base = 0) (hsh : l.shape = some sh)
    (hlen : sh.length = l.len) :
    (finishLeg l s).plan.legs = ls
    ∧ (finishLeg l s).job = s.job
    ∧ (finishLeg l s).axis = { s.axis with pathPos := s.axis.pathPos - 60 * l.len, setPoint := sh.stop }
    ∧ (finishLeg l s).queue = queueAfterEnd s e es sh (limitAtEnd s.plan l) 0
    ∧ (finishLeg l s).jet = { s.jet with contour := contourAfterEnd s.jet e sh }
    ∧ Posts s (finishLeg l s) (if e.report then [.retired e.seq e.pidx e.tag] else []) := by
  have hpoint : l.pointAt l.len = some sh.stop := by rw [Leg.pointAt_entry hk hbase hsh, if_pos hlen.symm]
  simp only [finishLeg, hk, hpoint, Option.getD_some]
  generalize hs1 : State.setAxis (s.setPlan _) _ = s1
  have hhead : s1.queueHead = some e := by
    rw [← hs1]
    simp [State.queueHead, he]
  have hkeep := retireHead_keeps (limitAtEnd s.plan l) s1
  obtain ⟨hqueue, hjet, hposts⟩ := retireHead_of_head (limitAtEnd s.plan l) hhead hend
  subst hs1
  refine ⟨?_, hkeep.job rfl, hkeep.axis rfl, ?_, ?_, hposts⟩
  · rw [limitAtEnd] at hkeep
    rw [hkeep.plan rfl]
    simp [hl]
  · refine hqueue.trans ?_
    rw [retireEntry_queue, historyEntry_of_shape _ _ hshape]
    simp [queueAfterEnd, he]
    rfl
  · refine hjet.trans ?_
    simp only [contourAfterEnd, hshape, Option.map_some, Option.getD_some, State.setAxis_jet, State.setPlan_jet]
    cases s.jet.contour <;> rfl

/-- The next leg, if there is one, is a whole entry, and the head is short of its end; the path ends where it does. -/
def GoesInto (ls : List Leg) (pathPos : Nat) : Prop :=
  (ls = [] → pathPos = 0) ∧ ∀ k, ls.head? = some k → k.kind = .entry ∧ k.base = 0 ∧ (0 < k.len → pathPos < 60 * k.len)

/-- Short of the next leg's end nothing more is crossed. -/
theorem crossLegs_goesInto {s : State} (n : Nat) (h : GoesInto s.plan.legs s.axis.pathPos) : crossLegs n s = s := by
  cases n with
  | zero => rfl
  | succ n =>
    unfold crossLegs
    cases hl : s.plan.legs with
    | nil => rfl
    | cons k ks =>
      obtain ⟨-, -, hk⟩ := h.2 k (by simp [hl])
      exact if_neg (fun g => by have := hk g.1; omega)

/-- The progress into the next entry, or 0 at the end of the path (R41). -/
theorem takeProgress_goesInto {s : State} (h : GoesInto s.plan.legs s.axis.pathPos) (h0 : s.queue.progress = 0) :
    takeProgress s = s.setQueue { s.queue with progress := s.axis.pathPos / 60 } := by
  unfold takeProgress
  cases hl : s.plan.legs with
  | nil =>
    have hq : s.queue = { s.queue with progress := s.axis.pathPos / 60 } := by rw [h.1 hl, Nat.zero_div, ← h0]
    exact congrArg s.setQueue hq
  | cons k ks =>
    obtain ⟨hk, hb, -⟩ := h.2 k (by simp [hl])
    simp [hk, hb, State.headPos]

/-- A step that reaches the end of the first leg and no other completes that leg. -/
theorem takeStep_over_end {s : State} {l : Leg} {ls : List Leg} (hl : s.plan.legs = l :: ls) (hk : l.kind = .entry)
    (hlen : 0 < l.len) (hpos : 60 * l.len ≤ s.axis.pathPos) (hls : (finishLeg l s).plan.legs = ls)
    (hinto : GoesInto (finishLeg l s).plan.legs (finishLeg l s).axis.pathPos)
    (h0 : (finishLeg l s).queue.progress = 0) :
    takeStep s = (finishLeg l s).setQueue {
      (finishLeg l s).queue with progress := (finishLeg l s).axis.pathPos / 60 } := by
  have hcross : crossLegs s.plan.legs.length s = finishLeg l s := by
    rw [hl]
    simp only [List.length_cons, crossLegs, hl]
    rw [if_pos ⟨hlen, hpos, by simp [hk]⟩, crossLegs_goesInto _ hinto]
  unfold takeStep
  simp only [hcross]
  rw [if_pos (by simp [hls, hl]), takeProgress_goesInto hinto h0]

/-- Moving on along an entry changes nothing that its retirement reads: a contour record goes only before a TRAVERSE. -/
theorem queueAfterEnd_movedBy {s : State} {e : QueueEntry} {l : Leg} (fb : Point) (homeX homeY : Bool) (n : Nat)
    (es : List QueueEntry) (sh : Shape) (limit progress : Nat) (h : l.isTraverse = !e.kind.cutting) :
    queueAfterEnd (movedBy fb homeX homeY l n s) e es sh limit progress = queueAfterEnd s e es sh limit progress := by
  have hcopy : ∀ k j : Nat, (e.kind.cutting = true → k = j) →
      retiredCopy (movedBy fb homeX homeY l n s) e sh k limit = retiredCopy s e sh j limit := by
    intro k j hkj
    cases hcut : e.kind.cutting with
    | false => simp [retiredCopy, hcut]
    | true =>
      rw [hkj hcut]
      rfl
  unfold queueAfterEnd
  rw [hcopy _ ((s.jet.contour.map ContourRec.start).getD 0) (fun hc => by simp [movedBy, h, hc])]
  rfl

/-- The step never reaches beyond the end of the path (R103). -/
theorem stepLength_le_path (c : ConfigRec) (p : Plan) (pathPos : Nat) :
    stepLength c p pathPos ≤ 60 * pathLength p.legs - pathPos :=
  (Nat.min_le_right ..).trans (leastOf_le_first ..)

/-- What a period leaves that reaches the end of the entry at the queue head. -/
structure EntryEnded (s t : State) (fb : Point) (e : QueueEntry) (es : List QueueEntry) (l : Leg) (sh : Shape) (n : Nat)
    (posted : List Report) : Prop where
  link : t.link = linkAfter s.link posted none
  job : t.job = s.job
  axis : t.axis = { s.axis with
    actual := ⟨fb.x + s.axis.offset.x, fb.y + s.axis.offset.y⟩, pathPos := s.axis.pathPos + n - 60 * l.len, speed := n
    setPoint := sh.stop, beyondX := false, beyondY := false }
  queue : t.queue = queueAfterEnd s e es sh (limitAtEnd s.plan l)
    ((s.axis.pathPos + n - 60 * l.len) / 60)
  contour : t.jet.contour = contourAfterEnd (movedBy fb false false l n s).jet e sh
  retired : e.report = true → Report.retired e.seq e.pidx e.tag ∈ posted
  silent : e.report = false → ∀ r ∈ posted, r.kindByte ≠ 0x93

/-- A period that reaches the end of the entry at the queue head (R42, R44, R105). -/
theorem period_over_end {s : State} {c : ConfigRec} {e : QueueEntry} {es : List QueueEntry} {l : Leg} {ls : List Leg}
    {sh : Shape} {fb : Point} (homeX homeY : Bool) (hp : FollowsPath s c) (hrun : s.job.state = .run)
    (hspeed : 0 < s.axis.speed) (he : s.queue.entries = e :: es) (hshape : e.shape = some sh) (hend : e.kind ≠ .segEnd)
    (hl : s.plan.legs = l :: ls) (hk : l.kind = .entry) (hbase : l.base = 0) (hsh : l.shape = some sh)
    (hlen : sh.length = l.len) (htraverse : l.isTraverse = !e.kind.cutting) (hrec : s.jet.recovery = none)
    (hshort : s.axis.pathPos < 60 * l.len) (ha : ∀ a ∈ s.plan.anchors, 60 * a.pos = (s.axis.pathPos : Int) → a.speed ≠ 0) {n : Nat}
    (hn : stepLength c s.plan s.axis.pathPos = n) (hstep : 0 < n) (hreach : 60 * l.len ≤ s.axis.pathPos + n)
    (hinto : GoesInto ls (s.axis.pathPos + n - 60 * l.len))
    (hw : WithinWarn c sh.stop ⟨fb.x + s.axis.offset.x, fb.y + s.axis.offset.y⟩) :
    ∃ t posted, exec (.interpolationPeriod fb.x fb.y homeX homeY) s = .next t ∧ EntryEnded s t fb e es l sh n posted := by
  have hcfg : s.cfg = c := by simp [State.cfg, hp.config]
  obtain ⟨hlegs, hjob, haxis, hqueue, hjet, hposts⟩ :=
    finishLeg_entry (s := movedBy fb homeX homeY l n s) he hshape hend hl hk hbase hsh hlen
  have htake := takeStep_over_end (s := movedBy fb homeX homeY l n s) hl hk (by omega) hreach hlegs
    (by rw [hlegs, haxis]; exact hinto) (by rw [hqueue]; rfl)
  have hpath := pathPeriod_moved homeX homeY hspeed hl hshort ha (by rw [hcfg, hn]) hstep hrec htake
    (by rw [State.setQueue_jet, hjet]; exact hrec)
  have hw' : WithinWarn c (finishLeg l (movedBy fb homeX homeY l n s)).axis.setPoint
      (finishLeg l (movedBy fb homeX homeY l n s)).axis.actual := by rw [haxis]; exact hw
  obtain ⟨t, m, ht, hlink, hlamps, tjob, taxis, tqueue, -, -, -, -, -, tcontour⟩ :=
    exec_period_moving homeX homeY hp hrun hpath (hposts : Posts s _ _)
      (by rw [State.setQueue_axis, haxis]; exact hstep.ne') hw'
  refine ⟨t, _, ht, hlink, tjob.trans hjob, ?_, ?_, ?_, fun h => ?_, fun h r hr => ?_⟩
  · rw [taxis, State.setQueue_axis, haxis]
    rfl
  · rw [tqueue, State.setQueue_queue, hqueue, haxis]
    exact queueAfterEnd_movedBy fb homeX homeY n _ _ _ _ htraverse
  · rw [tcontour, State.setQueue_jet, hjet]
    rfl
  · simp [h]
  · rw [hlamps r (by simpa [h] using hr)]
    decide

end Sys2Proof.Machine
end

section
/-! PROOFS. Arrival at a stop (R97, R100): what the head begins from there (R18, R108, R122), and the end of RUN at
standstill (R19, R43); the valve switch that reports the jet CLOSED (R131). -/

namespace Sys2Proof.Machine

open Sys2Proof

/-! ## Arrival -/

/-- Arrival in RUN/MOVING at standstill (R100). -/
theorem arrive_moving {s : State} (hrun : s.job.state = .run) (hsub : s.job.sub = some .moving)
    (hspeed : s.axis.speed = 0) (hstop : s.axis.stopRun = none) :
    arrive s = arriveMoving (recoveryAtStop (commitHere s)) := by
  simp [arrive, hspeed, hstop, hrun, hsub]

/-- Arrival in HOLD at standstill (R100). -/
theorem arrive_hold {s : State} (hhold : s.job.state = .hold) (hspeed : s.axis.speed = 0)
    (hstop : s.axis.stopRun = none) : arrive s = arriveHolding (recoveryInHold (commitHere s)) := by
  simp [arrive, hspeed, hstop, hhold]

theorem recoveryAtStop_none {s : State} (h : s.jet.recovery = none) : recoveryAtStop s = s := by
  simp [recoveryAtStop, h]

theorem recoveryAtStop_state (s : State) : (recoveryAtStop s).jet.state = s.jet.state := by
  unfold recoveryAtStop
  repeat' split
  all_goals rfl

/-- A stop of some kinds where the head stands. -/
theorem stopsHere_of_mem {s : State} {k : StopKind → Bool} {u : Stop} (hu : u ∈ s.plan.stops)
    (hpos : 60 * u.pos = (s.axis.pathPos : Int)) (hk : k u.kind = true) : stopsHere s k = true :=
  List.any_eq_true.mpr ⟨u, hu, by simp [atHead, hpos, hk]⟩

/-- Committing the stops at the head changes neither where they stand nor their kinds (R88). -/
theorem commitHere_stopsHere (s : State) (k : StopKind → Bool) : stopsHere (commitHere s) k = stopsHere s k := by
  simp only [stopsHere, commitHere, State.setPlan_plan, List.any_map]
  congr 1
  funext t
  simp only [Function.comp]
  split <;> rfl

/-! ## Going on from a stop, with the bed open -/

theorem closedList_of_bedOpen {s : State} (h : BedOpen s) : s.closedList = [] := by
  simp [State.closedList, ZoneUnit.closed, h.1, h.2]

/-- With no zone closed nothing withholds what comes next (R162). -/
theorem proceed_bedOpen {s : State} (h : BedOpen s) : proceed s = beginNeed (needOf s) s := by
  have hzones : (withheldBy s (needOf s)).zones = [] := by
    unfold withheldBy
    rw [closedList_of_bedOpen h]
    repeat' split
    all_goals rfl
  simp [proceed, hzones]

/-- The first leg of a plan made in RUN over a queue is that of the queue head (R82). -/
theorem planCore_head {s : State} {e : QueueEntry} {es : List QueueEntry} (hrun : s.job.state = .run)
    (hrec : s.queue.recPath = []) (happ : s.plan.approach = none) (he : s.queue.entries = e :: es) :
    ∃ l ls, (planCore s).plan.legs = l :: ls ∧ l.kind = .entry ∧ l.cutting = e.kind.cutting
      ∧ l.isEnd = decide (e.kind = .segEnd) := by
  have hlegs : (planCore s).plan.legs = planLegs s := by rw [planCore_run hrun]; rfl
  have hget := linkLegs_get s.cfg (s.queue.entries.map (fun e => (entryLeg s e, entryCMin s e))) 0
  rw [← planLegs_queue hrec happ, he, List.map_cons, List.getElem?_cons_zero, Option.map_some] at hget
  obtain ⟨ls, hls⟩ := List.head?_eq_some_iff.mp (List.head?_eq_getElem?.trans hget)
  refine ⟨_, ls, hlegs.trans hls, ?_⟩
  cases es <;> exact ⟨rfl, rfl, rfl⟩

/-- What comes next at a stop is what the queue head is (Table 1-7, R18). -/
theorem needOf_planned {s : State} {e : QueueEntry} {es : List QueueEntry} (hrun : s.job.state = .run)
    (hrec : s.queue.recPath = []) (happ : s.plan.approach = none) (he : s.queue.entries = e :: es)
    (hk : e.kind ≠ .segEnd) (hjet : s.jet.state ≠ .opened) :
    needOf (planCore s) = if e.kind.cutting then .sequence else .move := by
  obtain ⟨l, ls, hl, -, hcut, hend⟩ := planCore_head hrun hrec happ he
  have kp := planCore_keeps s
  simp [needOf, kp.queue rfl, hrec, hl, hend, hk, hcut, kp.jet rfl, hjet]

/-- Arrival in RUN/MOVING at a stop after which the head goes on, with the bed open (R100). -/
theorem arriveMoving_goesOn {s : State} {l : Leg} {ls : List Leg} (hl : s.plan.legs = l :: ls) (hend : l.isEnd = false)
    (hstop : stopsHere s StopKind.goesOn = true) (hbed : BedOpen s) :
    arriveMoving s = beginNeed (needOf (planCore s)) (planCore s) := by
  have hbed' : BedOpen (planCore s) := by
    unfold BedOpen
    rw [(planCore_keeps s).zone rfl]
    exact hbed
  simp [arriveMoving, hl, hend, hstop, proceed_bedOpen hbed']

/-- A TRAVERSE next: Z is commanded CLEAR (R108). -/
theorem arriveMoving_to_traverse {s : State} {e : QueueEntry} {es : List QueueEntry} {l : Leg} {ls : List Leg}
    (hrun : s.job.state = .run) (hsub : s.job.sub = some .moving) (hrec : s.queue.recPath = [])
    (happ : s.plan.approach = none) (he : s.queue.entries = e :: es) (hk : e.kind = .traverse)
    (hl : s.plan.legs = l :: ls) (hend : l.isEnd = false) (hstop : stopsHere s StopKind.goesOn = true)
    (hbed : BedOpen s) (hjet : s.jet.state ≠ .opened) (hpos : s.axis.pathPos = 0) (hspeed : s.axis.speed = 0) :
    arriveMoving s = zCommand .clear (planCore s) := by
  have kp := planCore_keeps s
  obtain ⟨p, ps, hp, hentry, hcut, hpend⟩ := planCore_head hrun hrec happ he
  have htraverse : p.isTraverse = true := by simp [Leg.isTraverse, hentry, hcut, hpend, hk, SegKind.cutting]
  rw [arriveMoving_goesOn hl hend hstop hbed, needOf_planned hrun hrec happ he (by simp [hk]) hjet]
  simp only [hk, SegKind.cutting, Bool.false_eq_true, if_false, beginNeed]
  rw [setState_same (by rw [kp.job rfl, hrun]) (by rw [kp.job rfl, hsub])]
  simp [clearForTraverse, hp, htraverse, kp.axis rfl, hpos, hspeed]

/-- A cut next, the jet not OPEN: a sequence is begun in PIERCING (R122). -/
theorem arriveMoving_to_cut {s : State} {e : QueueEntry} {es : List QueueEntry} {l : Leg} {ls : List Leg}
    (hrun : s.job.state = .run) (hrec : s.queue.recPath = []) (happ : s.plan.approach = none)
    (he : s.queue.entries = e :: es) (hk : e.kind.cutting = true) (hl : s.plan.legs = l :: ls) (hend : l.isEnd = false)
    (hstop : stopsHere s StopKind.goesOn = true) (hbed : BedOpen s) (hjet : s.jet.state ≠ .opened) :
    arriveMoving s = beginSequence (planCore (setState .run (some .piercing) (planCore s))) := by
  have hne : e.kind ≠ .segEnd := fun h => by simp [h, SegKind.cutting] at hk
  rw [arriveMoving_goesOn hl hend hstop hbed, needOf_planned hrun hrec happ he hne hjet, if_pos hk, beginNeed]

/-! ## A sequence begun (R122, R123) -/

/-- A Z command to another position than the head's: its report is awaited (R107). -/
theorem zCommand_pending {p : ZPos} {s : State} (hz : s.lines.zReached ≠ some p) (hcmd : s.axis.zCmd ≠ p) :
    zCommand p s = s.setAxis { s.axis with zCmd := p, zConfirmed := false, zTimer := zTimerFull s } := by
  rw [zCommand, if_neg hcmd, if_neg hz]

/-- Entry to PREPARING with Z neither at PIERCE nor commanded there: Z is commanded PIERCE and its report awaited. -/
theorem enterPreparing_waits {s : State} {r : SeqRecord} (hseq : s.jet.seq = some r)
    (hz : s.lines.zReached ≠ some .pierce) (hcmd : s.axis.zCmd ≠ .pierce) :
    (enterPreparing s).job = s.job ∧ (enterPreparing s).axis.speed = s.axis.speed
    ∧ (enterPreparing s).axis.zCmd = .pierce
    ∧ (enterPreparing s).jet =
        { s.jet with state := .preparing, rate := r.rate, seq := some { r with timer := none } } := by
  simp only [enterPreparing, hseq]
  generalize hs1 : State.setJet s _ = s1
  have kp := pumpSequence_keeps true s1
  have kz := zCommand_keeps .pierce (pumpSequence true s1)
  have kl := levelRequest_keeps (firstLevel r) (zCommand .pierce (pumpSequence true s1))
  have hconf : (zCommand .pierce (pumpSequence true s1)).axis.zConfirmed = false := by
    rw [zCommand_pending (by rw [kp.lines rfl, ← hs1]; exact hz) (by rw [kp.axis rfl, ← hs1]; exact hcmd)]
    rfl
  have hjet : (levelRequest (firstLevel r) (zCommand .pierce (pumpSequence true s1))).jet = s1.jet := by
    rw [kl.jet rfl, kz.jet rfl, kp.jet rfl]
  have hseq1 : s1.jet.seq = some r := by rw [← hs1]; rfl
  have hcheck : checkPreparing (levelRequest (firstLevel r) (zCommand .pierce (pumpSequence true s1)))
      = setStageTimer none (levelRequest (firstLevel r) (zCommand .pierce (pumpSequence true s1))) := by
    simp [checkPreparing, hjet, hseq1, State.zAt, kl.axis rfl, hconf]
  rw [hcheck]
  simp only [setStageTimer, State.setJet_job, State.setJet_axis, State.setJet_jet, hjet, hseq1, Option.map_some]
  rw [kl.job rfl, kz.job rfl, kp.job rfl, kl.axis rfl, zCommand_axis, kp.axis rfl, ← hs1]
  exact ⟨rfl, rfl, rfl, rfl⟩

/-- A sequence begun with the jet CLOSED (R122, R123). -/
theorem beginSequence_closed {s : State} {e : QueueEntry} (he : s.queueHead = some e) (hjet : s.jet.state = .closed)
    (hz : s.lines.zReached ≠ some .pierce) (hcmd : s.axis.zCmd ≠ .pierce) :
    (beginSequence s).job = s.job ∧ (beginSequence s).axis.speed = s.axis.speed
    ∧ (beginSequence s).axis.zCmd = .pierce ∧ (beginSequence s).jet.state = .preparing
    ∧ (beginSequence s).jet.seq = some { seqRecord s e with timer := none } := by
  have hbegin : beginSequence s = enterPreparing (s.setJet { s.jet with seq := some (seqRecord s e) }) := by
    simp [beginSequence, he, hjet]
  obtain ⟨hjob, hspeed, hzcmd, hjet'⟩ :=
    enterPreparing_waits (s := s.setJet { s.jet with seq := some (seqRecord s e) }) rfl hz hcmd
  rw [hbegin, hjet']
  exact ⟨hjob, hspeed, hzcmd, rfl, rfl⟩

/-! ## The end of the queued path (R19) -/

/-- At the end of the queued path, at standstill with the jet CLOSED, RUN/MOVING is STARVED. -/
theorem settle_starves {s : State} (hrun : s.job.state = .run) (hsub : s.job.sub = some .moving)
    (hjet : s.jet.state = .closed) (hspeed : s.axis.speed = 0) (he : s.queue.entries = []) :
    settle s = setState .run (some .starved) s := by
  simp [settle, State.jetClosed, hjet, hrun, runSettle, State.queueHead, he, hsub, hspeed]

/-- A head that stands at the start of the queue's own path stands at the END there. -/
theorem standsAtEnd_of {s : State} (hspeed : s.axis.speed = 0) (hpos : s.axis.pathPos = 0) (happ : s.plan.approach = none)
    (hrec : s.queue.recPath = []) : s.standsAtEnd = true := by
  simp [State.standsAtEnd, hspeed, hpos, happ, hrec]

/-! ## The valve switch (R131) -/

/-- The state in which the switch has just reported the jet CLOSED. -/
def shutBySwitch (s : State) : State :=
  (s.setLines { s.lines with valveClosed := true }).setJet { s.jet with state := .closed, valveTimer := none }

/-- With no sequence waiting, the switch that reports the jet CLOSED changes the jet as the recovery there has it, tells
the neighbours, and what waited for it settles (R131, R140). -/
theorem exec_switch_closing {s : State} (hclosing : s.jet.state = .closing) (hseq : s.jet.seq = none) :
    ∃ v, exec .valveSwitchActive s = .next (wrapUp (settle v)) ∧ Keeps [.lines, .jet, .pump, .wear] s v
      ∧ v.jet = (recoveryAtSwitch (shutBySwitch s)).jet := by
  have kr := recoveryAtSwitch_keeps (shutBySwitch s)
  have hnone : (recoveryAtSwitch (shutBySwitch s)).jet.seq = none := by
    unfold recoveryAtSwitch recoveryAtStop
    repeat' split
    all_goals exact hseq
  generalize hr : recoveryAtSwitch (shutBySwitch s) = r at *
  have k : Keeps [.pump, .wear] r (pumpValveClosed (wearTold false r)) :=
    (pumpValveClosed_keeps _).comp rfl ((wearTold_keeps ..).comp rfl (Keeps.refl _ _))
  have hprep : enterPreparing (pumpValveClosed (wearTold false r)) = pumpValveClosed (wearTold false r) := by
    simp [enterPreparing, k.jet rfl, hnone]
  have hswitch : switchActive s = done (pumpValveClosed (wearTold false r)) := by
    rw [← hprep, ← hr]
    exact if_pos hclosing
  refine ⟨_, congrArg (fun u => Host.Outcome.next (kick u)) hswitch, ?_, k.jet rfl⟩
  exact k.comp rfl (kr.comp rfl ((setJet_keeps ..).comp rfl ((setLines_keeps ..).comp rfl (Keeps.refl _ _))))

/-- Without a recovery, and outside RUN, the jet is just CLOSED. -/
theorem recoveryAtSwitch_shut {s : State} (h : s.jet.recovery = none ∨ s.job.state ≠ .run) :
    (recoveryAtSwitch (shutBySwitch s)).jet = { s.jet with state := .closed, valveTimer := none } := by
  have hsame : recoveryAtSwitch (shutBySwitch s) = shutBySwitch s := by
    rcases h with hrec | hrun
    · unfold recoveryAtSwitch
      rw [recoveryAtStop_none (s := shutBySwitch s) hrec, ite_self]
    · exact if_neg (fun g => hrun g.1)
  rw [hsame]
  rfl

end Sys2Proof.Machine
end

section
/-! PROOFS. O59: the end of an entry, and each stop of R100 at which a period in RUN/MOVING may find the head. -/

namespace Sys2Proof.Machine

open Sys2Proof

/-! ## A period at a stop in RUN/MOVING -/

/-- RUN/MOVING along the queue's own path. -/
structure MovesOnQueue (s : State) (c : ConfigRec) : Prop extends FollowsPath s c where
  run : s.job.state = .run
  moving : s.job.sub = some .moving
  recPath : s.queue.recPath = []
  recBack : s.queue.recBack = false
  approach : s.plan.approach = none

/-- Such a period finds the stops at the head committed. -/
def stoodAtStop (fb : Point) (homeX homeY : Bool) (s : State) : State := commitHere (stoodPeriod fb homeX homeY s)

theorem stoodAtStop_stopsHere {fb : Point} {homeX homeY : Bool} {s : State} {k : StopKind → Bool} {u : Stop}
    (hu : u ∈ s.plan.stops) (hpos : 60 * u.pos = (s.axis.pathPos : Int)) (hk : k u.kind = true) :
    stopsHere (stoodAtStop fb homeX homeY s) k = true :=
  (commitHere_stopsHere ..).trans (stopsHere_of_mem (s := stoodPeriod fb homeX homeY s) hu hpos hk)

/-- A period at a stop in RUN/MOVING: arrival, then what waits for standstill (R100, R103). -/
theorem exec_period_arrives {s w : State} {c : ConfigRec} {fb : Point} (homeX homeY : Bool) (h : MovesOnQueue s c)
    (hstop : AtStop s) (hzero : zeroLeg s = none ∨ mayStep s = false)
    (hjet : s.jet.state = .closed ∨ s.jet.state = .closing)
    (hw : WithinWarn c (pointHere s) ⟨fb.x + s.axis.offset.x, fb.y + s.axis.offset.y⟩)
    (hrec : recoveryAtStop (stoodAtStop fb homeX homeY s) = w) :
    exec (.interpolationPeriod fb.x fb.y homeX homeY) s = .next (wrapUp (settle (arriveMoving w))) := by
  have hopen : s.jet.state ≠ .opened := by rcases hjet with h | h <;> simp [h]
  have hperiod := period_at_stop homeX homeY h.toFollowsPath hstop hzero h.recBack hopen hw
  have harrive : arrive (stoodPeriod fb homeX homeY s) = arriveMoving w :=
    (arrive_moving (s := stoodPeriod fb homeX homeY s) h.run h.moving rfl h.stopRun).trans (congrArg arriveMoving hrec)
  rw [harrive] at hperiod
  exact congrArg (fun v => Host.Outcome.next (wrapUp v)) hperiod

/-- A moving head completes no entry of length 0. -/
theorem zeroLeg_none_of_moving {s : State} (h : 0 < s.axis.speed) : zeroLeg s = none := by
  unfold zeroLeg
  split
  · rfl
  · simp [h.ne']

theorem atStop_of_mem {s : State} {u : Stop} (hu : u ∈ s.plan.stops) (hpos : 60 * u.pos = (s.axis.pathPos : Int)) :
    AtStop s := .inr ⟨u, by simp [Plan.allStops, hu], hpos⟩

/-- What a command leaves that has kept some blocks of `s` before the lamps are derived. -/
theorem exec_wrapUp {i : Instr} {bs : List Block} {s v : State} (h : exec i s = .next (wrapUp v)) (k : Keeps bs s v) :
    ∃ t posted, exec i s = .next t ∧ t.link = linkAfter s.link posted none ∧ EndsAs v t := by
  obtain ⟨l, hl⟩ := k.posts
  obtain ⟨hends, m, hlink, -⟩ := wrapUp_ends (show Posts s v l from hl)
  exact ⟨_, _, h, hlink, hends⟩

/-- What a command leaves that has retired the END of the job before the lamps are derived (R43). -/
theorem exec_retires_end {i : Instr} {s v : State} {e : QueueEntry} {es : List QueueEntry} {l : List Report}
    (h : exec i s = .next (wrapUp (retireEnd e v))) (hl : Posts s v l) (he : s.queue.entries = e :: es)
    (hqueue : v.queue = s.queue) :
    ∃ t posted, exec i s = .next t ∧ t.link = linkAfter s.link posted none
      ∧ t.job = { v.job with state := .idle, sub := none } ∧ t.queue.entries = es
      ∧ (e.report = true → Report.retired e.seq e.pidx e.tag ∈ posted) ∧ t.axis.zCmd = .clear
      ∧ t.jet.contour = none
      ∧ t.jet = { v.jet with contour := none, recovery := v.jet.recovery.filter (fun r => !r.isPending) } := by
  obtain ⟨p, hp, hretired⟩ := retireEnd_posts e v
  obtain ⟨hends, m, hlink, -⟩ := wrapUp_ends (hl.trans hp)
  have hjet := hends.jet.trans (retireEnd_jet e v)
  refine ⟨_, _, h, hlink, hends.job.trans (retireEnd_job e v), ?_, fun hr => by simp [hretired hr],
    (congrArg Axis.zCmd hends.axis).trans (retireEnd_zCmd e v), by rw [hjet], hjet⟩
  rw [hends.queue, retireEnd_queue, retireEntry_queue, hqueue, he]
  rfl

theorem stoodAtStop_keeps (fb : Point) (homeX homeY : Bool) (s : State) :
    Keeps [.lines, .plan, .axis] s (stoodAtStop fb homeX homeY s) where
  job _ := rfl
  queue _ := rfl
  plan h := by simp at h
  axis h := by simp at h
  jet _ := rfl
  pump _ := rfl
  zone _ := rfl
  wear _ := rfl
  lines h := by simp at h
  config := rfl
  tables := rfl
  freeCount := rfl
  pending := rfl
  posts := ⟨[], rfl⟩

/-! ## The end of the queued path (R19) -/

/-- A period at the end of the queued path: STARVED with the jet CLOSED, and waiting while it is CLOSING. -/
theorem period_at_path_end {s : State} {c : ConfigRec} {fb : Point} (homeX homeY : Bool) (h : MovesOnQueue s c)
    (hrec : s.jet.recovery = none) (he : s.queue.entries = []) (hl : s.plan.legs = [])
    (hjet : s.jet.state = .closed ∨ s.jet.state = .closing)
    (hw : WithinWarn c s.axis.setPoint ⟨fb.x + s.axis.offset.x, fb.y + s.axis.offset.y⟩) :
    ∃ t posted, exec (.interpolationPeriod fb.x fb.y homeX homeY) s = .next t ∧ t.link = linkAfter s.link posted none
      ∧ t.job = { s.job with sub := if s.jet.state = .closed then some .starved else s.job.sub }
      ∧ t.axis.speed = 0 ∧ t.queue = s.queue := by
  have hpoint : pointHere s = s.axis.setPoint := by simp [pointHere, hl]
  have hexec := exec_period_arrives homeX homeY h (.inl hl) (.inl (by simp [zeroLeg, hl])) hjet (by rw [hpoint]; exact hw)
    (recoveryAtStop_none (s := stoodAtStop fb homeX homeY s) hrec)
  have harrive : arriveMoving (stoodAtStop fb homeX homeY s) = stoodAtStop fb homeX homeY s := by
    have hl' : (stoodAtStop fb homeX homeY s).plan.legs = [] := hl
    simp [arriveMoving, hl']
  rw [harrive] at hexec
  rcases hjet with hclosed | hclosing
  · rw [settle_starves (s := stoodAtStop fb homeX homeY s) h.run h.moving hclosed rfl he] at hexec
    have k := setState_keeps .run (some .starved) (stoodAtStop fb homeX homeY s)
    obtain ⟨t, posted, ht, hlink, hends⟩ := exec_wrapUp (bs := [.lines, .plan, .axis, .job]) hexec
      (k.comp rfl ((stoodAtStop_keeps fb homeX homeY s).comp rfl (Keeps.refl _ _)))
    refine ⟨t, posted, ht, hlink, ?_, ?_, ?_⟩
    · rw [hends.job, setState_job, if_pos hclosed, ← h.run]
      rfl
    · rw [hends.axis, k.axis rfl]
      rfl
    · rw [hends.queue, k.queue rfl]
      rfl
  · rw [settle_run_eq (s := stoodAtStop fb homeX homeY s) h.run (.inl (by
      change s.jet.state ≠ _
      simp [hclosing]))] at hexec
    obtain ⟨t, posted, ht, hlink, hends⟩ := exec_wrapUp hexec (stoodAtStop_keeps fb homeX homeY s)
    refine ⟨t, posted, ht, hlink, ?_, ?_, hends.queue⟩
    · rw [hends.job, if_neg (by simp [hclosing])]
      rfl
    · rw [hends.axis]
      rfl

/-- The switch that reports the jet CLOSED at the end of the queued path, the head standing: STARVED. -/
theorem switch_at_path_end {s : State} (hrun : s.job.state = .run) (hmoving : s.job.sub = some .moving)
    (hrec : s.jet.recovery = none) (he : s.queue.entries = []) (hclosing : s.jet.state = .closing)
    (hseq : s.jet.seq = none) (hspeed : s.axis.speed = 0) :
    ∃ t posted, exec .valveSwitchActive s = .next t ∧ t.link = linkAfter s.link posted none
      ∧ t.job = { s.job with sub := some .starved } ∧ t.jet.state = .closed := by
  obtain ⟨v, hexec, k, hjet⟩ := exec_switch_closing hclosing hseq
  rw [recoveryAtSwitch_shut (.inl hrec)] at hjet
  have hjob := k.job rfl
  have kv := setState_keeps .run (some .starved) v
  rw [settle_starves (by rw [hjob, hrun]) (by rw [hjob, hmoving]) (by rw [hjet]) (by rw [k.axis rfl, hspeed])
    (by rw [k.queue rfl, he])] at hexec
  obtain ⟨t, posted, ht, hlink, hends⟩ := exec_wrapUp (bs := [.lines, .jet, .pump, .wear, .job]) hexec
    (kv.comp rfl (k.comp rfl (Keeps.refl _ _)))
  refine ⟨t, posted, ht, hlink, ?_, ?_⟩
  · rw [hends.job, setState_job, hjob, ← hrun]
  · rw [hends.jet, kv.jet rfl, hjet]

/-! ## The stops at which the path goes on (R18, R108, R122) -/

/-- A period at a PIERCE or RESTART stop with the jet CLOSED: PIERCING, and a pierce or a kerf restart in PREPARING. -/
theorem period_at_cut_start {s : State} {c : ConfigRec} {fb : Point} {e : QueueEntry} {es : List QueueEntry} {l : Leg}
    {ls : List Leg} {u : Stop} (homeX homeY : Bool) (h : MovesOnQueue s c) (hrec : s.jet.recovery = none)
    (hspeed : 0 < s.axis.speed) (he : s.queue.entries = e :: es) (hk : e.kind.cutting = true)
    (hl : s.plan.legs = l :: ls) (hend : l.isEnd = false) (hu : u ∈ s.plan.stops)
    (hpos : 60 * u.pos = (s.axis.pathPos : Int)) (hkind : u.kind = .pierce ∨ u.kind = .restart) (hbed : BedOpen s)
    (hjet : s.jet.state = .closed) (hz : s.lines.zReached ≠ some .pierce) (hcmd : s.axis.zCmd ≠ .pierce)
    (hw : WithinWarn c (pointHere s) ⟨fb.x + s.axis.offset.x, fb.y + s.axis.offset.y⟩) :
    ∃ t posted k, exec (.interpolationPeriod fb.x fb.y homeX homeY) s = .next t ∧ t.link = linkAfter s.link posted none
      ∧ t.job = { s.job with sub := some .piercing } ∧ t.queue = s.queue ∧ t.axis.speed = 0 ∧ t.axis.zCmd = .pierce
      ∧ t.jet.state = .preparing ∧ t.jet.seq = some k ∧ k.entry = (e.seq, e.pidx)
      ∧ (k.kind = .pierce ↔ s.jet.contour = none ∨ s.jet.incomplete = true) := by
  have hgoes : StopKind.goesOn u.kind = true := by rcases hkind with h | h <;> rw [h] <;> rfl
  have hexec := exec_period_arrives homeX homeY h (atStop_of_mem hu hpos) (.inl (zeroLeg_none_of_moving hspeed))
    (.inl hjet) hw (recoveryAtStop_none (s := stoodAtStop fb homeX homeY s) hrec)
  rw [arriveMoving_to_cut (s := stoodAtStop fb homeX homeY s) h.run h.recPath h.approach he hk hl hend
    (stoodAtStop_stopsHere hu hpos hgoes) hbed (by change s.jet.state ≠ _; simp [hjet])] at hexec
  generalize hb : planCore (setState .run (some .piercing) (planCore (stoodAtStop fb homeX homeY s))) = b at hexec
  have kb : Keeps [.lines, .plan, .axis, .job] (stoodAtStop fb homeX homeY s) b := by
    rw [← hb]
    exact (planCore_keeps _).comp rfl ((setState_keeps ..).comp rfl ((planCore_keeps _).comp rfl (Keeps.refl _ _)))
  have haxis : b.axis = (stoodAtStop fb homeX homeY s).axis := by
    rw [← hb, (planCore_keeps _).axis rfl, (setState_keeps ..).axis rfl, (planCore_keeps _).axis rfl]
  have hlines : b.lines = (stoodAtStop fb homeX homeY s).lines := by
    rw [← hb, (planCore_keeps _).lines rfl, (setState_keeps ..).lines rfl, (planCore_keeps _).lines rfl]
  have hjob : b.job = { s.job with sub := some .piercing } := by
    rw [← hb, (planCore_keeps _).job rfl, setState_job, (planCore_keeps _).job rfl, ← h.run]
    rfl
  have hqueue : b.queue = s.queue := kb.queue rfl
  have hbjet : b.jet = s.jet := kb.jet rfl
  obtain ⟨tjob, tspeed, tcmd, tjet, tseq⟩ := beginSequence_closed (s := b) (e := e)
    (by rw [State.queueHead, hqueue, he]; rfl) (by rw [hbjet, hjet]) (by rw [hlines]; exact hz) (by rw [haxis]; exact hcmd)
  have kt := beginSequence_keeps b
  rw [settle_run_eq (by rw [tjob, hjob]; exact h.run) (.inl (by simp [tjet]))] at hexec
  obtain ⟨t, posted, ht, hlink, hends⟩ := exec_wrapUp (bs := [.job, .plan, .axis, .jet, .pump, .wear, .lines]) hexec
    (kt.comp rfl (kb.comp rfl ((stoodAtStop_keeps fb homeX homeY s).comp rfl (Keeps.refl _ _))))
  refine ⟨t, posted, _, ht, hlink, ?_, ?_, ?_, ?_, ?_, (congrArg Jet.seq hends.jet).trans tseq, ?_, ?_⟩
  · rw [hends.job, tjob, hjob]
  · rw [hends.queue, kt.queue rfl, hqueue]
  · rw [hends.axis, tspeed, haxis]
    rfl
  · rw [hends.axis, tcmd]
  · rw [hends.jet, tjet]
  · simp [seqRecord, hqueue, h.recPath, QueueEntry.ref]
  · simp [seqRecord, hqueue, h.recPath, seqKindOf, hbjet, or_iff_not_imp_left]

/-- A period at a JET_OFF stop before a TRAVERSE: the head goes on, and Z is commanded CLEAR (R108). -/
theorem period_at_jet_off {s w : State} {c : ConfigRec} {fb : Point} {e : QueueEntry} {es : List QueueEntry} {l : Leg}
    {ls : List Leg} {u : Stop} (homeX homeY : Bool) (h : MovesOnQueue s c)
    (hrec : recoveryAtStop (stoodAtStop fb homeX homeY s) = w) (hzero : zeroLeg s = none ∨ mayStep s = false)
    (he : s.queue.entries = e :: es) (hk : e.kind = .traverse)
    (hl : s.plan.legs = l :: ls) (hend : l.isEnd = false) (hu : u ∈ s.plan.stops)
    (hpos : 60 * u.pos = (s.axis.pathPos : Int)) (hkind : u.kind = .jetOff) (hbed : BedOpen s)
    (hjet : s.jet.state = .closed ∨ s.jet.state = .closing) (hstart : s.axis.pathPos = 0)
    (hw : WithinWarn c (pointHere s) ⟨fb.x + s.axis.offset.x, fb.y + s.axis.offset.y⟩) :
    ∃ t posted, exec (.interpolationPeriod fb.x fb.y homeX homeY) s = .next t ∧ t.link = linkAfter s.link posted none
      ∧ t.job = s.job ∧ t.queue = s.queue ∧ t.axis.speed = 0 ∧ t.axis.zCmd = .clear ∧ t.jet = w.jet := by
  have kw := recoveryAtStop_keeps (stoodAtStop fb homeX homeY s)
  have hexec := exec_period_arrives homeX homeY h (atStop_of_mem hu hpos) hzero hjet hw rfl
  rw [hrec] at kw hexec
  have hplan := kw.plan rfl
  have haxis := kw.axis rfl
  have hjob : w.job = s.job := kw.job rfl
  have hqueue : w.queue = s.queue := kw.queue rfl
  have hwjet : w.jet.state ≠ .opened := by
    rw [← hrec, recoveryAtStop_state]
    rcases hjet with h | h
    all_goals
      change s.jet.state ≠ _
      simp [h]
  have hwstop : stopsHere w StopKind.goesOn = true := by
    unfold stopsHere atHead
    rw [hplan, haxis]
    exact stoodAtStop_stopsHere hu hpos (by rw [hkind]; rfl)
  rw [arriveMoving_to_traverse (by rw [hjob, h.run]) (by rw [hjob, h.moving]) (by rw [hqueue, h.recPath])
    (by rw [hplan]; exact h.approach) (by rw [hqueue, he]) hk (by rw [hplan]; exact hl) hend hwstop
    (by unfold BedOpen; rw [kw.zone rfl]; exact hbed) hwjet (by rw [haxis]; exact hstart) (by rw [haxis]; rfl)] at hexec
  have k : Keeps [.plan, .axis] w (zCommand .clear (planCore w)) :=
    (zCommand_keeps ..).comp rfl ((planCore_keeps w).comp rfl (Keeps.refl _ _))
  rw [settle_run_eq (by rw [k.job rfl, hjob, h.run])
    (.inr (.inr ⟨e, by rw [State.queueHead, k.queue rfl, hqueue, he]; rfl, by simp [hk]⟩))] at hexec
  obtain ⟨t, posted, ht, hlink, hends⟩ := exec_wrapUp (bs := [.plan, .axis, .jet, .lines]) hexec
    (k.comp rfl (kw.comp rfl ((stoodAtStop_keeps fb homeX homeY s).comp rfl (Keeps.refl _ _))))
  refine ⟨t, posted, ht, hlink, ?_, ?_, ?_, ?_, ?_⟩
  · rw [hends.job, k.job rfl, hjob]
  · rw [hends.queue, k.queue rfl, hqueue]
  · rw [hends.axis, zCommand_axis, (planCore_keeps w).axis rfl, haxis]
    rfl
  · rw [hends.axis, zCommand_zCmd]
  · rw [hends.jet, k.jet rfl]

/-! ## The END of the job (R43) -/

/-- A period at an END with the jet CLOSED retires it, and the part is in IDLE. -/
theorem period_at_end {s : State} {c : ConfigRec} {fb : Point} {e : QueueEntry} {es : List QueueEntry} {l : Leg}
    {ls : List Leg} {u : Stop} (homeX homeY : Bool) (h : MovesOnQueue s c) (hrec : s.jet.recovery = none)
    (hspeed : 0 < s.axis.speed) (he : s.queue.entries = e :: es) (hk : e.kind = .segEnd)
    (hl : s.plan.legs = l :: ls) (hend : l.isEnd = true) (hu : u ∈ s.plan.stops)
    (hpos : 60 * u.pos = (s.axis.pathPos : Int)) (hjet : s.jet.state = .closed) (hstart : s.axis.pathPos = 0)
    (hw : WithinWarn c (pointHere s) ⟨fb.x + s.axis.offset.x, fb.y + s.axis.offset.y⟩) :
    ∃ t posted, exec (.interpolationPeriod fb.x fb.y homeX homeY) s = .next t ∧ t.link = linkAfter s.link posted none
      ∧ t.job = { s.job with state := .idle, sub := none } ∧ t.queue.entries = es
      ∧ (e.report = true → Report.retired e.seq e.pidx e.tag ∈ posted) ∧ t.axis.zCmd = .clear
      ∧ t.jet.contour = none := by
  have hexec := exec_period_arrives homeX homeY h (atStop_of_mem hu hpos) (.inl (zeroLeg_none_of_moving hspeed))
    (.inl hjet) hw (recoveryAtStop_none (s := stoodAtStop fb homeX homeY s) hrec)
  have hl' : (stoodAtStop fb homeX homeY s).plan.legs = l :: ls := hl
  have harrive : arriveMoving (stoodAtStop fb homeX homeY s) = stoodAtStop fb homeX homeY s := by
    simp [arriveMoving, hl', hend]
  have hstands : (stoodAtStop fb homeX homeY s).standsAtEnd = true := standsAtEnd_of rfl hstart h.approach h.recPath
  rw [harrive, settle_retires_end (s := stoodAtStop fb homeX homeY s) h.run hjet (by
    change s.queue.entries.head? = _
    rw [he]
    rfl) hk hstands] at hexec
  obtain ⟨t, posted, ht, hlink, hjob, hentries, hretired, hcmd, hcontour, -⟩ := exec_retires_end hexec
    (show Posts s (stoodAtStop fb homeX homeY s) [] from rfl) he rfl
  exact ⟨t, posted, ht, hlink, hjob, hentries, hretired, hcmd, hcontour⟩

/-! ## The end of an entry -/

/-- The path beyond the end of the first leg: nothing, or a whole entry the step does not complete. -/
theorem goesInto_of_step {c : ConfigRec} {p : Plan} {l : Leg} {ls : List Leg} {pathPos n : Nat} (hl : p.legs = l :: ls)
    (hn : stepLength c p pathPos = n) (hshort : pathPos < 60 * l.len)
    (hnext : ∀ k, ls.head? = some k →
      k.kind = .entry ∧ k.base = 0 ∧ (pathPos + n = 60 * l.len ∨ pathPos + n < 60 * (l.len + k.len))) :
    GoesInto ls (pathPos + n - 60 * l.len) := by
  refine ⟨fun hls => ?_, fun k hk => ?_⟩
  · have hle := stepLength_le_path c p pathPos
    rw [hn, hl, hls] at hle
    simp only [pathLength] at hle
    omega
  · obtain ⟨hkind, hbase, hpos⟩ := hnext k hk
    exact ⟨hkind, hbase, by omega⟩

/-- The limit at the end of an entry, by where the transition point lies (R93). -/
theorem limitAtEnd_eq (p : Plan) (l : Leg) :
    limitAtEnd p l = match p.transition with
      | some u => if (l.len : Int) ≤ u.pos then l.former else l.limit
      | none => l.limit := by
  unfold limitAtEnd upTo
  cases p.transition with
  | none => rfl
  | some u => simp

/-- A cutting entry is no TRAVERSE, and an entry that neither cuts nor ends the job is one. -/
theorem isTraverse_of_entry {l : Leg} {e : QueueEntry} (hk : l.kind = .entry) (hend : l.isEnd = false)
    (hcut : l.cutting = e.kind.cutting) : l.isTraverse = !e.kind.cutting := by
  simp [Leg.isTraverse, hk, hend, hcut]

/-- Settles O59, by the period over the end of an entry and the period at each kind of stop. -/
theorem entriesEndAndStopsAreReached : Obligations.EntriesEndAndStopsAreReached := by
  intro fbX fbY homeX homeY s c hrun hmoving hc hfrozen hstop hhoming hrecPath hback hrec happ actual period
  have h : MovesOnQueue s c :=
    ⟨⟨hc, hfrozen, hstop, hhoming, .inl hrun⟩, hrun, hmoving, hrecPath, hback, happ⟩
  refine ⟨?_, fun he hl hw => ⟨fun hclosed => ?_, fun hclosing hseq => ⟨?_, fun hspeed => ?_⟩⟩, ?_⟩
  · intro e es l ls sh he hshape hl hk hend hbase hsh hlen hcut hne hshort hspeed hhist ha x step pos start m hstep hreach
      hnext hw
    have htraverse := isTraverse_of_entry hk hend hcut
    obtain ⟨t, posted, ht, r⟩ := period_over_end (fb := ⟨fbX, fbY⟩) homeX homeY h.toFollowsPath hrun hspeed he hshape hne
      hl hk hbase hsh hlen htraverse hrec hshort ha rfl hstep hreach (goesInto_of_step hl rfl hshort hnext) hw
    have hcontour := r.contour
    simp only [contourAfterEnd, movedBy, htraverse] at hcontour
    refine ⟨t, posted, ⟨ht, r.link⟩, r.job, r.axis, ?_, fun k => ?_, r.retired, r.silent, fun k hkc hkj => ?_,
      fun hkt => ?_⟩
    · rw [r.queue, queueAfterEnd, pushHistory_eq _ hhist, limitAtEnd_eq]
      rfl
    · rw [r.queue, queueAfterEnd, bumpUse_get]
      split <;> rfl
    · simp [hcontour, hkc, hkj]
    · simp [hcontour, hkt, SegKind.cutting]
  · obtain ⟨t, posted, ht, hlink, hjob, hspeed, hqueue⟩ :=
      period_at_path_end (fb := ⟨fbX, fbY⟩) homeX homeY h hrec he hl (.inl hclosed) hw
    exact ⟨t, posted, ⟨ht, hlink⟩, by rw [hjob, if_pos hclosed], hspeed, hqueue⟩
  · obtain ⟨t, posted, ht, hlink, hjob, hspeed, -⟩ :=
      period_at_path_end (fb := ⟨fbX, fbY⟩) homeX homeY h hrec he hl (.inr hclosing) hw
    exact ⟨t, posted, ⟨ht, hlink⟩, by rw [hjob, if_neg (by simp [hclosing])], hspeed⟩
  · exact switch_at_path_end hrun hmoving hrec he hclosing hseq hspeed
  · intro e es l ls u he hl _ htraverse hend hspeed hu hpos hbed hjet hw
    refine ⟨fun hk hkind hclosed hz hcmd => ?_, fun hk hkind hstart => ?_, fun hk _ hstart hclosed => ?_⟩
    · have hne : e.kind ≠ .segEnd := fun g => by simp [g, SegKind.cutting] at hk
      obtain ⟨t, posted, k, ht, hlink, hrest⟩ := period_at_cut_start (fb := ⟨fbX, fbY⟩) homeX homeY h hrec hspeed he hk hl
        (by simp [hend, hne]) hu hpos hkind hbed hclosed hz hcmd hw
      exact ⟨t, posted, k, ⟨ht, hlink⟩, hrest⟩
    · obtain ⟨t, posted, ht, hlink, hrest⟩ := period_at_jet_off (fb := ⟨fbX, fbY⟩) homeX homeY h
        (recoveryAtStop_none (s := stoodAtStop ⟨fbX, fbY⟩ homeX homeY s) hrec) (.inl (zeroLeg_none_of_moving hspeed)) he hk
        hl (by simp [hend, hk]) hu hpos hkind hbed hjet hstart hw
      exact ⟨t, posted, ⟨ht, hlink⟩, hrest⟩
    · obtain ⟨t, posted, ht, hlink, hrest⟩ := period_at_end (fb := ⟨fbX, fbY⟩) homeX homeY h hrec hspeed he hk hl
        (by simp [hend, hk]) hu hpos hclosed hstart hw
      exact ⟨t, posted, ⟨ht, hlink⟩, hrest⟩

end Sys2Proof.Machine
end

section
/-! PROOFS. O55: the abrasive monitor (R135), the hold or the fault its window brings (R5, R15), and the end of a pending
recovery at a stop that lies at s_stop (R140; log entry 47). -/

namespace Sys2Proof.Machine

open Sys2Proof

/-! ## The ABRASIVE hold (R15) -/

/-- A close command leaves a disarmed monitor disarmed, and the last pulse where it was (R131). -/
theorem closeCommand_monitor (s : State) :
    (closeCommand s).jet.armed = false ∧ (closeCommand s).jet.window = none
    ∧ (closeCommand s).jet.lastPulse = s.jet.lastPulse := by
  unfold closeCommand endSequence pumpSequence ladder
  dsimp only
  repeat' split
  all_goals exact ⟨rfl, rfl, rfl⟩

/-- So does the close point that hands it over. -/
theorem closeWatch_monitor {s : State} (harmed : s.jet.armed = false) (hwindow : s.jet.window = none) :
    (closeWatch s).jet.armed = false ∧ (closeWatch s).jet.window = none
    ∧ (closeWatch s).jet.lastPulse = s.jet.lastPulse := by
  obtain ⟨point, h⟩ | ⟨q, h⟩ := closeWatch_cases s
  · rw [h]
    exact ⟨harmed, hwindow, rfl⟩
  · rw [h]
    exact closeCommand_monitor _

/-- HOLD/STOPPING with its record and the HOLD report, before the hold stop is placed (R13, R15). -/
def holdRecorded (r : HoldReason) (z : Option Zone) (s : State) : State :=
  post (.hold (some r) z) ((setState .hold (some .stopping) s).setJob {
    (setState .hold (some .stopping) s).job with hold := some { reason := r, zone := z }, deferred := false })

theorem holdRecorded_job (r : HoldReason) (z : Option Zone) (s : State) :
    (holdRecorded r z s).job = { s.job with
      state := .hold, sub := some .stopping, hold := some { reason := r, zone := z }, deferred := false } := by
  simp only [holdRecorded, setState_job]
  rfl

theorem holdRecorded_keeps (r : HoldReason) (z : Option Zone) (s : State) : Keeps [.job] s (holdRecorded r z s) :=
  (post_keeps ..).comp rfl ((setJob_keeps ..).comp rfl ((setState_keeps ..).comp rfl (Keeps.refl _ _)))

theorem holdRecorded_posts (r : HoldReason) (z : Option Zone) (s : State) :
    ∃ l, Posts s (holdRecorded r z s) l ∧ Report.hold (some r) z ∈ l := by
  obtain ⟨p, hp⟩ := (setState_keeps .hold (some .stopping) s).posts
  exact ⟨p ++ [.hold (some r) z], Posts.trans (u := holdRecorded r z s) (m := [.hold (some r) z]) hp rfl, by simp⟩

/-- Entry to HOLD from RUN/MOVING along the path, no hold being in force (R13, R95). -/
theorem enterHold_along {s : State} (r : HoldReason) (z : Option Zone) (hsub : s.job.sub = some .moving)
    (hnone : s.job.hold = none) :
    enterHold .stopping r z .along s
      = closeWatch (placeHoldStop (holdAccel .along (holdRecorded r z s)) (holdRecorded r z s)) := by
  have hold1 : (setState .hold (some .stopping) s).job.hold = none := by rw [setState_job]; exact hnone
  have hrecord : setHold { reason := r, zone := z } ((setState .hold (some .stopping) s).setJob {
      (setState .hold (some .stopping) s).job with deferred := false }) = holdRecorded r z s := by
    rw [setHold, if_neg (by simp [hold1])]
    rfl
  simp [enterHold, hsub, hrecord]

/-- What it leaves: the record with its report, and the monitor disarmed (R13, R15). -/
theorem enterHold_along_outcome {s : State} (r : HoldReason) (z : Option Zone) (hsub : s.job.sub = some .moving)
    (hnone : s.job.hold = none) (harmed : s.jet.armed = false) (hwindow : s.jet.window = none) :
    (enterHold .stopping r z .along s).job = { s.job with
      state := .hold, sub := some .stopping, hold := some { reason := r, zone := z }, deferred := false }
    ∧ (enterHold .stopping r z .along s).jet.armed = false
    ∧ (enterHold .stopping r z .along s).jet.window = none
    ∧ (enterHold .stopping r z .along s).jet.lastPulse = s.jet.lastPulse
    ∧ ∃ l, Posts s (enterHold .stopping r z .along s) l ∧ Report.hold (some r) z ∈ l := by
  rw [enterHold_along r z hsub hnone]
  have kr := holdRecorded_keeps r z s
  have kp := placeHoldStop_keeps (holdAccel .along (holdRecorded r z s)) (holdRecorded r z s)
  generalize placeHoldStop _ _ = v at kp
  have kw := closeWatch_keeps v
  have hjet : v.jet = s.jet := (kp.jet rfl).trans (kr.jet rfl)
  obtain ⟨ha, hw, hp⟩ := closeWatch_monitor (s := v) (by rw [hjet, harmed]) (by rw [hjet, hwindow])
  obtain ⟨l, hl, hmem⟩ := holdRecorded_posts r z s
  obtain ⟨q, hq⟩ := (kw.comp rfl (kp.comp rfl (Keeps.refl [.plan, .jet, .pump] _))).posts
  refine ⟨?_, ha, hw, hp.trans (congrArg Jet.lastPulse hjet), _, hl.trans hq, by simp [hmem]⟩
  rw [kw.job rfl, kp.job rfl, holdRecorded_job]

/-- On the move in HOLD nothing settles (R16). -/
theorem settle_hold_moving {s : State} (hhold : s.job.state = .hold) (hspeed : s.axis.speed ≠ 0) : settle s = s := by
  unfold settle
  split
  · simp [hhold, holdSettle, hspeed, heldWhenStill, standing]
  · rfl

/-! ## The ABRASIVE_REPEAT fault (R7) -/

theorem setFault_job (r : FaultRecord) (s : State) : (setFault r s).job = { s.job with fault := r } := by
  unfold setFault
  split
  · next h => rw [← h]
  · rfl

theorem discardHold_state (s : State) : (discardHold s).job.state = s.job.state := by
  unfold discardHold clearHold
  split <;> rfl

/-- FAULT entered: its state, its record, the residency in full, and the queue flushed (R7, R8, R21). -/
theorem enterFault_outcome (k : FaultKind) (detail : Nat) (s : State) :
    (enterFault k detail s).job.state = .fault ∧ (enterFault k detail s).job.residency = some 2000
    ∧ (enterFault k detail s).job.fault = { kind := some k, detail := detail, secondary := 0 }
    ∧ (enterFault k detail s).queue.entries = [] := by
  unfold enterFault
  extract_lets s1 s2 s3 s4 s5
  have hstate1 : s1.job.state = .fault := by
    rw [(closeCommand_keeps _).job rfl, discardHold_state, setState_job]
  have hstate2 : s2.job.state = .fault := by
    unfold s2
    split
    · exact hstate1
    · rw [(orderStop_keeps ..).job rfl, hstate1]
  have k4 : Keeps [.pump] s3 s4 := by
    unfold s4
    split
    · exact levelRequest_keeps ..
    · exact orderStandby_keeps _
  have hstate4 : s4.job.state = .fault := by
    rw [k4.job rfl, (clearJetRecords_keeps _).job rfl, (flush_keeps _).job rfl, hstate2]
  rw [(clearAtRest_keeps _).job rfl, setFault_job, (clearAtRest_keeps _).queue rfl, (setFault_keeps ..).queue rfl,
    (setJob_keeps ..).queue rfl, k4.queue rfl]
  exact ⟨hstate4, rfl, rfl, rfl⟩

theorem settle_fault {s : State} (h : s.job.state = .fault) : settle s = s := by
  unfold settle
  rw [h]
  exact ite_self _

/-! ## The window runs out (R135, R140) -/

/-- With no recovery pending, the ABRASIVE hold. -/
theorem window_holds {s : State} (harmed : s.jet.armed = true) (hrun : s.job.state = .run)
    (hmoving : s.job.sub = some .moving) (hspeed : 0 < s.axis.speed) (hnone : s.job.hold = none)
    (hrec : ∀ r, s.jet.recovery = some r → r.isPending = false) :
    ∃ t posted, exec .abrasiveWindowExpiry s = .next t ∧ t.link = linkAfter s.link posted none
      ∧ t.job = { s.job with
          state := .hold, sub := some .stopping, hold := some { reason := .abrasive, zone := none }, deferred := false }
      ∧ Report.hold (some .abrasive) none ∈ posted ∧ t.jet.armed = false ∧ t.jet.window = none
      ∧ t.jet.lastPulse = s.jet.lastPulse ∧ t.queue = s.queue ∧ t.axis = s.axis := by
  have hrecovering : (s.setJet (disarm s.jet)).recovering = false := by
    change (s.jet.recovery.map RecoveryRec.isPending).getD false = false
    cases hr : s.jet.recovery with
    | none => rfl
    | some r => exact hrec r hr
  have hloss : abrasiveLoss (s.setJet (disarm s.jet))
      = enterHold .stopping .abrasive none .along (s.setJet (disarm s.jet)) := by
    simp [abrasiveLoss, hrecovering, raiseHold, hrun]
  have kv := enterHold_keeps .stopping .abrasive none .along (s.setJet (disarm s.jet))
  obtain ⟨hjob, ha, hw, hp, l, hl, hmem⟩ :=
    enterHold_along_outcome (s := s.setJet (disarm s.jet)) .abrasive none hmoving hnone rfl rfl
  generalize hv : enterHold .stopping .abrasive none .along (s.setJet (disarm s.jet)) = v at *
  have hsettle : settle v = v := settle_hold_moving (by rw [hjob]) (by rw [kv.axis rfl]; exact hspeed.ne')
  have hexpiry : windowExpiry s = lampDerive v := by
    rw [windowExpiry, if_pos harmed, hloss, done, hsettle]
  obtain ⟨hends, m, hlink, -⟩ := wrapUp_ends (show Posts s v l from hl)
  refine ⟨wrapUp v, _, congrArg (fun u => Host.Outcome.next (kick u)) hexpiry, hlink, hends.job.trans hjob,
    by simp [hmem], ?_, ?_, ?_, hends.queue.trans (kv.queue rfl), hends.axis.trans (kv.axis rfl)⟩
  all_goals rw [hends.jet]
  · exact ha
  · exact hw
  · exact hp

/-- With one pending, the ABRASIVE_REPEAT fault. -/
theorem window_faults {s : State} {e : QueueEntry} {es : List QueueEntry} {r : RecoveryRec} (harmed : s.jet.armed = true)
    (hrun : s.job.state = .run) (he : s.queue.entries = e :: es) (hrec : s.jet.recovery = some r)
    (hpending : r.isPending = true) :
    ∃ t, exec .abrasiveWindowExpiry s = .next t ∧ t.job.state = .fault ∧ t.job.residency = some 2000
      ∧ t.job.fault = { kind := some .abrasiveRepeat, detail := e.seq.toNat, secondary := 0 }
      ∧ t.queue.entries = [] := by
  have hloss : abrasiveLoss (s.setJet (disarm s.jet))
      = enterFault .abrasiveRepeat e.seq.toNat (s.setJet (disarm s.jet)) := by
    simp [abrasiveLoss, State.recovering, disarm, hrec, hpending, State.queueHead, he, raiseFault, hrun]
  obtain ⟨hstate, hres, hfault, hentries⟩ :=
    enterFault_outcome .abrasiveRepeat e.seq.toNat (s.setJet (disarm s.jet))
  generalize enterFault .abrasiveRepeat e.seq.toNat (s.setJet (disarm s.jet)) = v at *
  have hexpiry : windowExpiry s = lampDerive v := by
    rw [windowExpiry, if_pos harmed, hloss, done, settle_fault hstate]
  obtain ⟨hends, -⟩ := wrapUp_ends (posts_nil (s := v) rfl)
  refine ⟨wrapUp v, congrArg (fun u => Host.Outcome.next (kick u)) hexpiry, ?_, ?_, ?_, by rw [hends.queue, hentries]⟩
  all_goals rw [hends.job]
  · exact hstate
  · exact hres
  · exact hfault

/-! ## A recovery ends at s_stop (R140) -/

/-- A recovery is pending, the head stands at its s_stop, at a JET_OFF or END stop, with nothing left to be cut there. -/
structure RecoveryDue (s : State) : Prop where
  pending : ∃ r, s.jet.recovery = some r ∧ r.isPending = true ∧ contourDistance s = some r.sStop
  nothingToCut : s.zeroCutAhead = false
  stop : stopsHere s (fun k => k == .jetOff || k == .segEnd) = true

/-- The jet closing there ends it. -/
theorem recoveryAtStop_ends {s : State} (h : RecoveryDue s) (hjet : s.jet.state = .closing ∨ s.jet.state = .closed) :
    recoveryAtStop s = clearRecovery s := by
  obtain ⟨⟨r, hr, hp, hd⟩, hzero, hstop⟩ := h
  simp [recoveryAtStop, hr, hp, hd, hzero, hstop, hjet]

/-- A period that takes no step leaves it due. -/
theorem RecoveryDue.stood {s : State} (h : RecoveryDue s) (fb : Point) (homeX homeY : Bool) :
    RecoveryDue (stoodAtStop fb homeX homeY s) where
  pending := h.pending
  nothingToCut := h.nothingToCut
  stop := (commitHere_stopsHere ..).trans h.stop

/-- So does the valve switch, until the recovery is looked at. -/
theorem RecoveryDue.shut {s : State} (h : RecoveryDue s) : RecoveryDue (shutBySwitch s) where
  pending := h.pending
  nothingToCut := h.nothingToCut
  stop := h.stop

/-- In RUN at standstill the switch that reports the jet CLOSED ends it. -/
theorem recoveryAtSwitch_due {s : State} (h : RecoveryDue s) (hrun : s.job.state = .run) (hspeed : s.axis.speed = 0)
    (hstop : s.axis.stopRun = none) :
    (recoveryAtSwitch (shutBySwitch s)).jet = { s.jet with state := .closed, valveTimer := none, recovery := none } := by
  have hcleared : recoveryAtSwitch (shutBySwitch s) = clearRecovery (shutBySwitch s) :=
    (if_pos ⟨hrun, hspeed, hstop⟩).trans (recoveryAtStop_ends h.shut (.inr rfl))
  rw [hcleared]
  rfl

/-- In HOLD/STOPPING at the hold stop with the jet CLOSED the part is HELD, and a recovery due there is over. -/
theorem settle_holds {s w : State} {h : Stop} (hhold : s.job.state = .hold) (hstopping : s.job.sub = some .stopping)
    (hjet : s.jet.state = .closed) (hspeed : s.axis.speed = 0) (hrun : s.axis.stopRun = none)
    (hstop : s.plan.holdStop = some h) (hpos : 60 * h.pos = (s.axis.pathPos : Int)) (hrec : recoveryAtStop s = w) :
    settle s = setState .hold (some .held) w := by
  have kw := recoveryAtStop_keeps s
  have hwjet := recoveryAtStop_state s
  rw [hrec] at kw hwjet
  have hheld : heldWhenStill w = setState .hold (some .held) w := by
    unfold heldWhenStill
    rw [if_pos]
    simp [kw.job rfl, kw.plan rfl, kw.axis rfl, hhold, hstopping, State.jetClosed, hwjet, hjet, standing, hspeed, hstop,
      atHead, hpos]
  simp [settle, State.jetClosed, hjet, hhold, holdSettle, hspeed, hrun, recoveryInHold, hstopping, hrec, hheld]

end Sys2Proof.Machine
end

section
/-! PROOFS. O55: the ends of a pending recovery in HOLD, at a TRAVERSE and at an END, and the whole of the statement. -/

namespace Sys2Proof.Machine

open Sys2Proof

/-! ## Where the head stands -/

/-- A recovery is due by the queue, the plan, the axes, and the jet's recovery and contour records alone. -/
theorem RecoveryDue.of_reads {s t : State} (h : RecoveryDue s) (hqueue : t.queue = s.queue) (hplan : t.plan = s.plan)
    (haxis : t.axis = s.axis) (hrec : t.jet.recovery = s.jet.recovery) (hcontour : t.jet.contour = s.jet.contour) :
    RecoveryDue t := by
  obtain ⟨hpending, hzero, hstop⟩ := h
  constructor
  · simpa only [contourDistance, State.headPos, hqueue, haxis, hrec, hcontour] using hpending
  · simpa only [State.zeroCutAhead, hplan] using hzero
  · simpa only [stopsHere, atHead, hplan, haxis] using hstop

theorem zeroCutAhead_false {s : State} (h : NoZeroCut s) : s.zeroCutAhead = false := by
  unfold State.zeroCutAhead
  cases hl : s.plan.legs.head? with
  | none => rfl
  | some l =>
    have := h l hl
    simp only [Option.any_some, Bool.and_eq_false_imp, beq_eq_false_iff_ne]
    exact fun hc => (this hc).ne'

theorem isEnd_of_isTraverse {l : Leg} (h : l.isTraverse = true) : l.isEnd = false := by
  simp only [Leg.isTraverse, Bool.and_eq_true, Bool.not_eq_true'] at h
  obtain ⟨⟨-, hend⟩, -⟩ := h
  exact hend

/-- Before a TRAVERSE the head completes none of length 0: there is none, or Z has yet to be CLEAR (R108). -/
theorem noZeroTraverse {s : State} {l : Leg} {ls : List Leg} (hl : s.plan.legs = l :: ls) (ht : l.isTraverse = true)
    (h : 0 < l.len ∨ s.axis.zCmd ≠ .clear) (hpos : s.axis.pathPos = 0) (hspeed : s.axis.speed = 0) :
    zeroLeg s = none ∨ mayStep s = false := by
  rcases h with hlen | hcmd
  · exact .inl (by simp [zeroLeg, hl, hlen.ne'])
  · exact .inr (by simp [mayStep, hl, ht, hpos, hspeed, State.zAt, hcmd])

/-! ## In HOLD, at the hold stop (R16, R140) -/

/-- A head held at its hold stop begins no entry of length 0 there (log entry 12). -/
theorem zeroLeg_none_of_holdStop {s : State} {h : Stop} (hhold : s.job.state = .hold) (hstop : s.plan.holdStop = some h)
    (hpos : 60 * h.pos = (s.axis.pathPos : Int)) : zeroLeg s = none := by
  have hbegin : ∀ l, mayBegin s l = false := by
    intro l
    have hat : s.plan.allStops.any (atHead s) = true :=
      List.any_eq_true.mpr ⟨h, by simp [Plan.allStops, hstop], by simp [atHead, hpos]⟩
    simp [mayBegin, hhold, hat]
  unfold zeroLeg
  split
  · rfl
  · simp [hbegin]

/-- A period in HOLD/STOPPING at the hold stop ends a recovery due there; the part is HELD once the jet is CLOSED. -/
theorem period_ends_recovery_in_hold {s : State} {c : ConfigRec} {fb : Point} {h : Stop} (homeX homeY : Bool)
    (hp : FollowsPath s c) (hdue : RecoveryDue s) (hhold : s.job.state = .hold) (hstopping : s.job.sub = some .stopping)
    (hback : s.queue.recBack = false) (hjet : s.jet.state = .closing ∨ s.jet.state = .closed)
    (hstop : s.plan.holdStop = some h) (hpos : 60 * h.pos = (s.axis.pathPos : Int))
    (hw : WithinWarn c (pointHere s) ⟨fb.x + s.axis.offset.x, fb.y + s.axis.offset.y⟩) :
    ∃ t posted, exec (.interpolationPeriod fb.x fb.y homeX homeY) s = .next t ∧ t.link = linkAfter s.link posted none
      ∧ t.queue = s.queue ∧ t.jet = { s.jet with recovery := none }
      ∧ t.job = { s.job with sub := some (if s.jet.state = .closed then .held else .stopping) } := by
  have hopen : s.jet.state ≠ .opened := by rcases hjet with g | g <;> simp [g]
  have hperiod := period_at_stop homeX homeY hp (.inr ⟨h, by simp [Plan.allStops, hstop], hpos⟩)
    (.inl (zeroLeg_none_of_holdStop hhold hstop hpos)) hback hopen hw
  generalize hw' : clearRecovery (stoodAtStop fb homeX homeY s) = w
  have kw : Keeps [.jet, .lines, .plan, .axis] s w := by
    rw [← hw']
    exact (setJet_keeps ..).comp rfl ((stoodAtStop_keeps fb homeX homeY s).comp rfl (Keeps.refl _ _))
  have hends := recoveryAtStop_ends (hdue.stood fb homeX homeY) hjet
  have hin : recoveryInHold (stoodAtStop fb homeX homeY s) = w :=
    (if_pos hstopping).trans (hends.trans hw')
  have hstanding : standing w w.plan.holdStop = true := by
    have hplan : w.plan.holdStop = some h := by rw [← hw']; exact hstop
    have haxis : w.axis = (stoodAtStop fb homeX homeY s).axis := by rw [← hw']; rfl
    simp only [standing, hplan, atHead, haxis, Bool.and_eq_true, beq_iff_eq]
    exact ⟨rfl, hpos⟩
  have harrive : arrive (stoodPeriod fb homeX homeY s) = w := by
    rw [arrive_hold (s := stoodPeriod fb homeX homeY s) hhold rfl hp.stopRun]
    refine (congrArg arriveHolding hin).trans ?_
    rw [arriveHolding, if_pos hstanding]
  rw [harrive] at hperiod
  have hexec : exec (.interpolationPeriod fb.x fb.y homeX homeY) s = .next (wrapUp (settle w)) :=
    congrArg (fun v => Host.Outcome.next (wrapUp v)) hperiod
  have hwjet : w.jet = { s.jet with recovery := none } := by rw [← hw']; rfl
  have hjob := kw.job rfl
  rcases hjet with hclosing | hclosed
  · have hsettle : settle w = w := if_neg (by simp [State.jetClosed, hwjet, hclosing])
    rw [hsettle] at hexec
    obtain ⟨t, posted, ht, hlink, he⟩ := exec_wrapUp hexec kw
    refine ⟨t, posted, ht, hlink, he.queue.trans (kw.queue rfl), he.jet.trans hwjet, ?_⟩
    rw [he.job, hjob, if_neg (by simp [hclosing]), ← hstopping]
  · have hsettle : settle w = setState .hold (some .held) w := by
      refine settle_holds (h := h) (by rw [hjob, hhold]) (by rw [hjob, hstopping]) (by rw [hwjet, hclosed]) ?_ ?_ ?_ ?_
        (recoveryAtStop_none (by rw [hwjet]))
      all_goals rw [← hw']
      · rfl
      · exact hp.stopRun
      · exact hstop
      · exact hpos
    rw [hsettle] at hexec
    have kv := setState_keeps .hold (some .held) w
    obtain ⟨t, posted, ht, hlink, he⟩ := exec_wrapUp (bs := [.jet, .lines, .plan, .axis, .job]) hexec
      (kv.comp rfl (kw.comp rfl (Keeps.refl _ _)))
    refine ⟨t, posted, ht, hlink, ?_, ?_, ?_⟩
    · rw [he.queue, kv.queue rfl, kw.queue rfl]
    · rw [he.jet, kv.jet rfl, hwjet]
    · rw [he.job, setState_job, hjob, if_pos hclosed, ← hhold]

/-- The switch that reports the jet CLOSED in HOLD/STOPPING at the hold stop ends it too, and the part is HELD. -/
theorem switch_ends_recovery_in_hold {s : State} {h : Stop} (hdue : RecoveryDue s) (hhold : s.job.state = .hold)
    (hstopping : s.job.sub = some .stopping) (hspeed : s.axis.speed = 0) (hrun : s.axis.stopRun = none)
    (hclosing : s.jet.state = .closing) (hseq : s.jet.seq = none) (hstop : s.plan.holdStop = some h)
    (hpos : 60 * h.pos = (s.axis.pathPos : Int)) :
    ∃ t posted, exec .valveSwitchActive s = .next t ∧ t.link = linkAfter s.link posted none
      ∧ t.job = { s.job with sub := some .held }
      ∧ t.jet = { s.jet with state := .closed, valveTimer := none, recovery := none } := by
  obtain ⟨v, hexec, k, hjet⟩ := exec_switch_closing hclosing hseq
  rw [recoveryAtSwitch_shut (.inr (by simp [hhold]))] at hjet
  have hvdue : RecoveryDue v := hdue.of_reads (k.queue rfl) (k.plan rfl) (k.axis rfl) (by rw [hjet]) (by rw [hjet])
  have hjob := k.job rfl
  have haxis := k.axis rfl
  rw [settle_holds (h := h) (by rw [hjob, hhold]) (by rw [hjob, hstopping]) (by rw [hjet]) (by rw [haxis, hspeed])
    (by rw [haxis, hrun]) (by rw [k.plan rfl, hstop]) (by rw [haxis, hpos])
    (recoveryAtStop_ends hvdue (.inr (by rw [hjet])))] at hexec
  have kv := setState_keeps .hold (some .held) (clearRecovery v)
  obtain ⟨t, posted, ht, hlink, he⟩ := exec_wrapUp (bs := [.lines, .jet, .pump, .wear, .job]) hexec
    (kv.comp rfl ((setJet_keeps ..).comp rfl (k.comp rfl (Keeps.refl _ _))))
  refine ⟨t, posted, ht, hlink, ?_, ?_⟩
  · have hcleared : (clearRecovery v).job = s.job := hjob
    rw [he.job, setState_job, hcleared, ← hhold]
  · rw [he.jet, kv.jet rfl, clearRecovery, State.setJet_jet, hjet]

/-! ## In RUN (R43, R108, R140) -/

/-- The switch that reports the jet CLOSED at a JET_OFF stop before a TRAVERSE ends it, and the head waits as it did. -/
theorem switch_ends_recovery_at_traverse {s : State} {e : QueueEntry} {es : List QueueEntry} (hdue : RecoveryDue s)
    (hrun : s.job.state = .run) (hspeed : s.axis.speed = 0) (hstop : s.axis.stopRun = none)
    (he : s.queue.entries = e :: es) (hk : e.kind = .traverse) (hclosing : s.jet.state = .closing)
    (hseq : s.jet.seq = none) :
    ∃ t posted, exec .valveSwitchActive s = .next t ∧ t.link = linkAfter s.link posted none ∧ t.job = s.job
      ∧ t.queue = s.queue ∧ t.jet = { s.jet with state := .closed, valveTimer := none, recovery := none } := by
  obtain ⟨v, hexec, k, hjet⟩ := exec_switch_closing hclosing hseq
  rw [recoveryAtSwitch_due hdue hrun hspeed hstop] at hjet
  rw [settle_run_eq (by rw [k.job rfl, hrun])
    (.inr (.inr ⟨e, by rw [State.queueHead, k.queue rfl, he]; rfl, by simp [hk]⟩))] at hexec
  obtain ⟨t, posted, ht, hlink, hends⟩ := exec_wrapUp hexec k
  exact ⟨t, posted, ht, hlink, hends.job.trans (k.job rfl), hends.queue.trans (k.queue rfl), hends.jet.trans hjet⟩

/-- The switch that reports the jet CLOSED at an END ends it, and retires the END. -/
theorem switch_ends_recovery_at_end {s : State} {e : QueueEntry} {es : List QueueEntry} (hdue : RecoveryDue s)
    (hrun : s.job.state = .run) (hspeed : s.axis.speed = 0) (hstop : s.axis.stopRun = none)
    (hrec : s.queue.recPath = []) (happ : s.plan.approach = none) (hpos : s.axis.pathPos = 0)
    (he : s.queue.entries = e :: es) (hk : e.kind = .segEnd) (hclosing : s.jet.state = .closing)
    (hseq : s.jet.seq = none) :
    ∃ t posted, exec .valveSwitchActive s = .next t ∧ t.link = linkAfter s.link posted none
      ∧ t.job = { s.job with state := .idle, sub := none } ∧ t.queue.entries = es
      ∧ t.jet = { s.jet with state := .closed, valveTimer := none, contour := none, recovery := none }
      ∧ (e.report = true → Report.retired e.seq e.pidx e.tag ∈ posted) := by
  obtain ⟨v, hexec, k, hjet⟩ := exec_switch_closing hclosing hseq
  rw [recoveryAtSwitch_due hdue hrun hspeed hstop] at hjet
  have haxis := k.axis rfl
  have hqueue := k.queue rfl
  rw [settle_retires_end (by rw [k.job rfl, hrun]) (by rw [hjet]) (by rw [State.queueHead, hqueue, he]; rfl) hk
    (standsAtEnd_of (by rw [haxis, hspeed]) (by rw [haxis, hpos]) (by rw [k.plan rfl, happ]) (by rw [hqueue, hrec]))]
    at hexec
  obtain ⟨l, hl⟩ := k.posts
  obtain ⟨t, posted, ht, hlink, tjob, tentries, tretired, -, -, tjet⟩ :=
    exec_retires_end hexec (show Posts s v l from hl) he hqueue
  exact ⟨t, posted, ht, hlink, by rw [tjob, k.job rfl], tentries, by rw [tjet, hjet]; rfl, tretired⟩

/-! ## O55 -/

/-- Settles O55, by what each event of the abrasive monitor does, and what ends a pending recovery in HOLD and RUN. -/
theorem abrasiveMonitorHoldsTheJob : Obligations.AbrasiveMonitorHoldsTheJob := by
  intro s
  refine ⟨fun harmed => ?_, fun c harmed hcontour hrec => ?_, fun e es harmed hrun hmoving hspeed hnone he => ?_, ?_⟩
  · refine ⟨?_, kick (windowExpiry s), rfl, ?_⟩
    · exact congrArg Host.Outcome.next (if_neg (by simp [harmed]))
    · rw [windowExpiry, if_neg (by simp [harmed])]
      rfl
  · refine congrArg Host.Outcome.next ((if_pos harmed).trans ?_)
    simp [armMonitor, contourDistance, hcontour, hrec, harmed, State.setJet]
  · exact ⟨window_holds harmed hrun hmoving hspeed hnone, fun r => window_faults harmed hrun he⟩
  · intro fbX fbY homeX homeY c r k u hc hfrozen ⟨hspeed, hstop, hhoming⟩ hrec hback hr hpending hcontour hdist hjet hzero hu
      hkind hpos hw ends
    have hkinds : (u.kind == .jetOff || u.kind == .segEnd) = true := by rcases hkind with h | h <;> rw [h] <;> rfl
    have hdue : RecoveryDue s := {
      pending := ⟨r, hr, hpending, by simp [contourDistance, hcontour, hrec, hdist]⟩
      nothingToCut := zeroCutAhead_false hzero
      stop := stopsHere_of_mem hu hpos hkinds }
    refine ⟨fun h hhold hstopping hholdStop hholdPos => ⟨?_, fun hclosing hseq => ?_⟩, ?_, ?_⟩
    · obtain ⟨t, posted, ht, hlink, hqueue, htjet, hjob⟩ := period_ends_recovery_in_hold (fb := ⟨fbX, fbY⟩) homeX homeY
        ⟨hc, hfrozen, hstop, hhoming, .inr hhold⟩ hdue hhold hstopping hback hjet hholdStop hholdPos hw
      exact ⟨t, posted, ⟨ht, hlink, hqueue, htjet⟩, hjob⟩
    · exact switch_ends_recovery_in_hold hdue hhold hstopping hspeed hstop hclosing hseq hholdStop hholdPos
    · intro e es l ls hrun hmoving hoff hstart happ hbed he hk hl htraverse
      refine ⟨fun hclear => ?_, fun hclosing hseq =>
        switch_ends_recovery_at_traverse hdue hrun hspeed hstop he hk hclosing hseq⟩
      obtain ⟨t, posted, ht, hlink, hjob, hqueue, -, hcmd, htjet⟩ := period_at_jet_off (fb := ⟨fbX, fbY⟩) homeX homeY
        ⟨⟨hc, hfrozen, hstop, hhoming, .inl hrun⟩, hrun, hmoving, hrec, hback, happ⟩
        (recoveryAtStop_ends (hdue.stood ⟨fbX, fbY⟩ homeX homeY) hjet)
        (noZeroTraverse hl htraverse hclear hstart hspeed) he hk hl (isEnd_of_isTraverse htraverse) hu hpos hoff hbed
        hjet.symm hstart hw
      exact ⟨t, posted, ⟨ht, hlink, hqueue, htjet⟩, hjob, hcmd⟩
    · intro e es hrun _ hstart happ he hk hclosing hseq
      exact switch_ends_recovery_at_end hdue hrun hspeed hstop hrec happ hstart he hk hclosing hseq

end Sys2Proof.Machine
end

section
/-! PROOFS. Records checked field by field (R22, R51, R56, R60): the model's list of checks fails first at the first
field that is out of range by the manual's table, and passes when every field is in range. -/

namespace Sys2Proof.Machine

open Sys2Proof

/-- A list of checks passes when each of them does. -/
theorem firstFault_eq_none {checks : List (Nat × Bool)} : firstFault checks = none ↔ ∀ c ∈ checks, c.2 = true := by
  induction checks with
  | nil => simp [firstFault]
  | cons c rest ih =>
    obtain ⟨k, b⟩ := c
    cases b <;> simp [firstFault, ih]

/-- The checks are, in order, those of the fields from `lo` on, each as a table of ranges gives it. -/
def ChecksFields (ok : Nat → Prop) : Nat → List (Nat × Bool) → Prop
  | _, [] => True
  | lo, (k, b) :: rest => k = lo ∧ (ok lo ↔ b = true) ∧ ChecksFields ok (lo + 1) rest

theorem ChecksFields.firstFault_of_outOfRange {ok : Nat → Prop} {lo hi n : Nat} {checks : List (Nat × Bool)}
    (h : ChecksFields ok lo checks) (hlen : lo + checks.length = hi + 1) (hn : FirstOutOfRange ok lo hi n) :
    firstFault checks = some n := by
  obtain ⟨hlo, hhi, hbad, hbefore⟩ := hn
  induction checks generalizing lo with
  | nil => simp at hlen; omega
  | cons c rest ih =>
    obtain ⟨k, b⟩ := c
    obtain ⟨rfl, hb, hrest⟩ := h
    rcases hlo.eq_or_lt with rfl | hlt
    · simp [firstFault, show b = false by simpa [hb] using hbad]
    · have hpass : b = true := hb.mp (hbefore k le_rfl hlt)
      simp only [firstFault, hpass, if_true]
      exact ih hrest (by rw [List.length_cons] at hlen; omega) hlt (fun m hm => hbefore m (by omega))

theorem ChecksFields.firstFault_of_inRange {ok : Nat → Prop} {lo hi : Nat} {checks : List (Nat × Bool)}
    (h : ChecksFields ok lo checks) (hlen : lo + checks.length = hi + 1) (hall : AllInRange ok lo hi) :
    firstFault checks = none := by
  induction checks generalizing lo with
  | nil => rfl
  | cons c rest ih =>
    obtain ⟨k, b⟩ := c
    obtain ⟨rfl, hb, hrest⟩ := h
    rw [List.length_cons] at hlen
    have hpass : b = true := hb.mp (hall k le_rfl (by omega))
    simp only [firstFault, hpass, if_true]
    exact ih hrest (by omega) (fun m hm => hall m (by omega))

/-- Table 3-1 is what the model checks of a Material record (R51). -/
theorem materialChecks_fields (r : MaterialReq) : ChecksFields (materialField r) 2 (materialChecks r) := by
  have hmethod : r.method = 1 ∨ r.method = 2 ∨ r.method = 3 ↔ 1 ≤ r.method ∧ r.method ≤ 3 := by omega
  simp [ChecksFields, materialChecks, materialField, within_iff, and_assoc, hmethod]

/-- Table 3-3 is what the model checks of a Nozzle record (R56). -/
theorem nozzleChecks_fields (r : NozzleReq) : ChecksFields (nozzleField r) 1 (nozzleChecks r) := by
  simp [ChecksFields, nozzleChecks, nozzleField, within_iff]

theorem directionOf_isSome (d : Nat) : (directionOf d).isSome = true ↔ d ≤ 1 := by
  rcases d with _ | _ | d <;> simp [directionOf]

/-- Table 3-4 is what the model checks of a Template record (R60). -/
theorem templateChecks_fields (r : TemplateReq) : ChecksFields (templateField r) 2 (templateChecks r) := by
  simp [ChecksFields, templateChecks, templateField, within_iff, directionOf_isSome, methodOf_isSome]

end Sys2Proof.Machine
end

section
/-! PROOFS. The Wear Counter (R57, R59, R166 to R168): every operation but the count of jet-on time, an accepted Nozzle
record and the power-on reset leaves the count, the kerf estimate and the alarm as they stand, and those three keep
them sound (O6). -/

namespace Sys2Proof.Machine

open Sys2Proof

/-! ## Operations that leave the count as it stands -/

/-- From `s` to `t` the Nozzle record stands, and of the Wear Counter no more than the timing flag has changed (R121,
R166). -/
structure CountStands (s t : State) : Prop where
  nozzle : t.tables.nozzle = s.tables.nozzle
  count : t.wear = { s.wear with timing := t.wear.timing }

theorem CountStands.refl (s : State) : CountStands s s := ⟨rfl, rfl⟩

theorem CountStands.after {s t u : State} (g : CountStands t u) (h : CountStands s t) : CountStands s u :=
  ⟨g.nozzle.trans h.nozzle, by rw [g.count, h.count]⟩

/-- After what left the count as it stood, an operation that does not touch the Wear Counter leaves it so. -/
theorem Keeps.stands {bs : List Block} {s t u : State} (k : Keeps bs t u) (hb : bs.contains .wear = false)
    (h : CountStands s t) : CountStands s u :=
  CountStands.after ⟨by rw [k.tables], by rw [k.wear hb]⟩ h

/-- Telling the Wear Counter of the valve sets the timing flag alone (R166). -/
theorem wearTold_stands (b : Bool) (s : State) : CountStands s (wearTold b s) := ⟨rfl, rfl⟩

theorem valveOpens_stands (r : SeqRecord) (s : State) : CountStands s (valveOpens r s) := by
  unfold valveOpens
  extract_lets contour j s1 s2
  have h2 : CountStands s s2 :=
    (wearTold_stands ..).after ((pumpValveOpen_keeps _).stands rfl ((setJet_keeps ..).stands rfl (.refl s)))
  split
  · exact (armMonitor_keeps _).stands rfl h2
  · exact h2

theorem openValve_stands (s : State) : CountStands s (openValve s) := by
  unfold openValve
  split
  · exact .refl s
  · next r _ =>
    dsimp only
    have h1 := valveOpens_stands r s
    repeat' split
    · exact (setStageTimer_keeps ..).stands rfl ((setJet_keeps ..).stands rfl h1)
    · exact (layCreep_keeps ..).stands rfl ((setStageTimer_keeps ..).stands rfl ((setJet_keeps ..).stands rfl h1))
    · exact (enterJetRamping_keeps _).stands rfl h1

theorem endPreparing_stands (s : State) : CountStands s (endPreparing s) := by
  unfold endPreparing
  split
  · extract_lets j s1
    have h1 : CountStands s s1 := (setJet_keeps ..).stands rfl (.refl s)
    split
    · exact (openValve_stands _).after ((setStageTimer_keeps ..).stands rfl h1)
    · exact (setStageTimer_keeps ..).stands rfl h1
  · exact (openValve_stands _).after ((setStageTimer_keeps ..).stands rfl (.refl s))

theorem checkPreparing_stands (s : State) : CountStands s (checkPreparing s) := by
  unfold checkPreparing
  repeat' split
  · exact .refl s
  · exact endPreparing_stands s
  · exact (setStageTimer_keeps ..).stands rfl (.refl s)
  · exact .refl s
  · exact (setStageTimer_keeps ..).stands rfl (.refl s)

theorem enterPreparing_stands (s : State) : CountStands s (enterPreparing s) := by
  unfold enterPreparing
  split
  · exact .refl s
  · exact (checkPreparing_stands _).after ((levelRequest_keeps ..).stands rfl ((zCommand_keeps ..).stands rfl
      ((pumpSequence_keeps ..).stands rfl ((setJet_keeps ..).stands rfl (.refl s)))))

theorem seqAdvance_stands (s : State) : CountStands s (seqAdvance s) := by
  unfold seqAdvance
  cases s.jet.state
  case preparing => exact checkPreparing_stands s
  case ramping => exact (checkRamping_keeps s).stands rfl (.refl s)
  all_goals exact .refl s

theorem beginSequence_stands (s : State) : CountStands s (beginSequence s) := by
  unfold beginSequence
  split
  · exact .refl s
  · extract_lets j s1
    have h1 : CountStands s s1 := (setJet_keeps ..).stands rfl (.refl s)
    split
    · exact (enterPreparing_stands _).after h1
    · exact h1

theorem beginNeed_stands (n : Need) (s : State) : CountStands s (beginNeed n s) := by
  cases n with
  | nothing => exact (setState_keeps ..).stands rfl (.refl s)
  | atEnd =>
    dsimp only [beginNeed]
    split
    · exact .refl s
    · exact (setState_keeps ..).stands rfl (.refl s)
  | backtrack => exact (setState_keeps ..).stands rfl (.refl s)
  | sequence =>
    exact (beginSequence_stands _).after ((planCore_keeps _).stands rfl ((setState_keeps ..).stands rfl (.refl s)))
  | move => exact (clearForTraverse_keeps _).stands rfl ((setState_keeps ..).stands rfl (.refl s))

theorem proceed_stands (s : State) : CountStands s (proceed s) := by
  unfold proceed
  extract_lets n w s1
  have h1 : CountStands s s1 := by
    unfold s1
    split
    · exact .refl s
    · exact (setState_keeps ..).stands rfl (.refl s)
  repeat' split
  · exact beginNeed_stands n s
  · exact (clearForTraverse_keeps _).stands rfl ((setState_keeps ..).stands rfl (.refl s))
  · exact (foldl_keeps _ (fun _ _ => raiseHold_keeps ..) _ _).stands rfl h1

theorem arriveMoving_stands (s : State) : CountStands s (arriveMoving s) := by
  unfold arriveMoving
  repeat' split
  · exact .refl s
  · exact .refl s
  · exact (proceed_stands _).after ((planCore_keeps s).stands rfl (.refl s))
  · exact (clearForTraverse_keeps s).stands rfl (.refl s)

theorem arrive_stands (s : State) : CountStands s (arrive s) := by
  unfold arrive
  split
  · have hc : CountStands s (commitHere s) := (commitHere_keeps s).stands rfl (.refl s)
    cases s.job.state
    case run =>
      dsimp only
      have h1 : CountStands s (recoveryAtStop (commitHere s)) := (recoveryAtStop_keeps _).stands rfl hc
      split
      · exact (arriveMoving_stands _).after h1
      · split
        · exact (proceed_stands _).after ((backtrackDone_keeps _).stands rfl h1)
        · exact h1
      · exact (arrivePiercing_keeps _).stands rfl h1
      · exact h1
    case hold => exact (arriveHolding_keeps _).stands rfl ((recoveryInHold_keeps _).stands rfl hc)
    all_goals exact .refl s
  · exact .refl s

theorem period_stands (fb : Point) (homeX homeY : Bool) (s : State) : CountStands s (period fb homeX homeY s) :=
  (settle_keeps _).stands rfl ((arrive_stands _).after ((closeWatch_keeps _).stands rfl ((followCheck_keeps _).stands rfl
    ((motion_keeps _).stands rfl ((sample_keeps ..).stands rfl (.refl s))))))

theorem wrapUp_stands {s t : State} (h : CountStands s t) : CountStands s (wrapUp t) := by
  have hl : CountStands s (lampDerive t) := (lampDerive_keeps t).stands rfl h
  exact ⟨hl.nozzle, hl.count⟩

theorem pumpDone_stands {s t : State} (h : CountStands s t) : CountStands s (pumpDone t) :=
  wrapUp_stands ((settle_keeps _).stands rfl ((seqAdvance_stands t).after h))

/-- The head goes on from where it stands, with its plan made anew (R17, R18, R39). -/
theorem goOn_stands {s t : State} (h : CountStands s t) :
    CountStands s (done (proceed (planCore (placeApproach t)))) :=
  (done_keeps _).stands rfl ((proceed_stands _).after ((planCore_keeps _).stands rfl
    ((placeApproach_keeps t).stands rfl h)))

theorem afterAppend_stands (s : State) : CountStands s (afterAppend s) := by
  unfold afterAppend
  split
  · exact goOn_stands (.refl s)
  · exact (done_keeps _).stands rfl ((replan_keeps s).stands rfl (.refl s))

/-! ## Requests that leave the count as it stands -/

theorem firstConfigured_stands (s : State) : CountStands s (firstConfigured s) := by
  unfold firstConfigured
  extract_lets s1 j s2
  have h1 : CountStands s s1 := (deriveClosed_keeps _).stands rfl ((setState_keeps ..).stands rfl (.refl s))
  have h2 : CountStands s s2 := by
    unfold s2
    split
    · exact (setJet_keeps ..).stands rfl h1
    · exact h1
  exact (driveCheck_keeps _).stands rfl ((planCore_keeps _).stands rfl ((zTimerOnConfigured_keeps _).stands rfl h2))

theorem replacedConfig_stands (old : ConfigRec) (s : State) : CountStands s (replacedConfig old s) :=
  (planCore_keeps _).stands rfl ((pumpConfigured_keeps ..).stands rfl ((deriveClosed_keeps s).stands rfl (.refl s)))

theorem answerConfigure_stands (r : ConfigRec) (s : State) : CountStands s (answerConfigure r s).state := by
  unfold answerConfigure
  split
  · split
    · exact .refl s
    · have h1 : CountStands s (s.setConfig (some r)) := ⟨rfl, rfl⟩
      refine (done_keeps _).stands rfl ?_
      split
      · exact (firstConfigured_stands _).after h1
      · exact (replacedConfig_stands ..).after h1
  · exact .refl s

theorem answerMaterial_stands (r : MaterialReq) (s : State) : CountStands s (answerMaterial r s).state := by
  unfold answerMaterial
  repeat' split
  all_goals exact ⟨rfl, rfl⟩

theorem answerTemplate_stands (r : TemplateReq) (s : State) : CountStands s (answerTemplate r s).state := by
  unfold answerTemplate
  repeat' split
  all_goals exact ⟨rfl, rfl⟩

theorem answerSegment_stands (r : SegmentReq) (s : State) : CountStands s (answerSegment r s).state := by
  unfold answerSegment
  repeat' split
  · exact .refl s
  · exact .refl s
  · exact (afterAppend_stands _).after ((acceptEntries_keeps ..).stands rfl (.refl s))
  · exact .refl s

theorem answerPlace_stands (r : PlaceReq) (s : State) : CountStands s (answerPlace r s).state := by
  unfold answerPlace
  repeat' split
  · exact .refl s
  · exact (afterAppend_stands _).after ((acceptEntries_keeps ..).stands rfl (.refl s))
  · exact .refl s

theorem answerRun_stands (s : State) : CountStands s (answerRun s).state := by
  unfold answerRun
  cases s.job.state
  case idle =>
    dsimp only
    split
    · exact goOn_stands ((setAxis_keeps ..).stands rfl (.refl s))
    · exact .refl s
  all_goals exact .refl s

theorem answerHold_stands (s : State) : CountStands s (answerHold s).state := by
  unfold answerHold
  cases s.job.state
  case run =>
    dsimp only
    split
    · exact (setJob_keeps ..).stands rfl (.refl s)
    · exact (done_keeps _).stands rfl ((takeHold_keeps s).stands rfl (.refl s))
  all_goals exact .refl s

theorem takeResume_stands (s : State) : CountStands s (takeResume s) := by
  unfold takeResume
  extract_lets abrasive p s1 s2
  have h1 : CountStands s s1 := (clearHold_keeps _).stands rfl ((setPlan_keeps ..).stands rfl (.refl s))
  have h2 : CountStands s s2 := by
    unfold s2
    split
    · exact (recoveryStart_keeps _).stands rfl h1
    · exact h1
  exact goOn_stands h2

theorem answerResume_stands (s : State) : CountStands s (answerResume s).state := by
  unfold answerResume
  cases s.job.state
  case hold =>
    dsimp only
    repeat' split
    · exact .refl s
    · exact takeResume_stands s
    · exact .refl s
  all_goals exact .refl s

theorem answerStop_stands (s : State) : CountStands s (answerStop s).state := by
  unfold answerStop
  cases s.job.state
  case idle => exact (done_keeps _).stands rfl ((stopIdle_keeps s).stands rfl (.refl s))
  case homing | run | hold => exact (done_keeps _).stands rfl ((enterAborting_keeps s).stands rfl (.refl s))
  all_goals exact .refl s

theorem answerClear_stands (s : State) : CountStands s (answerClear s).state := by
  unfold answerClear
  have hclear : CountStands s (takeClear s) := (takeClear_keeps s).stands rfl (.refl s)
  cases s.job.state
  case fault =>
    dsimp only
    repeat' split
    · exact .refl s
    · exact .refl s
    · exact hclear
    · exact hclear
  all_goals exact .refl s

theorem answerReference_stands (s : State) : CountStands s (answerReference s).state := by
  unfold answerReference
  cases s.job.state
  case idle => exact (takeReference_keeps s).stands rfl (.refl s)
  all_goals exact .refl s

theorem answerPressure_stands (level slot : Nat) (s : State) : CountStands s (answerPressure level slot s).state := by
  unfold answerPressure
  repeat' split
  · exact .refl s
  · exact (levelRequest_keeps ..).stands rfl (.refl s)
  · exact .refl s

/-- The warm reset leaves the Wear Counter and the Nozzle record (R26, Table 1-9). -/
theorem warmReset_stands (s : State) : CountStands s (warmReset s) := by
  unfold warmReset
  extract_lets s1 s2
  have h1 : CountStands s s1 := (warmJet_keeps _).stands rfl ((warmJob_keeps _).stands rfl ((flush_keeps _).stands rfl
    ((warmAxis_keeps s).stands rfl (.refl s))))
  have h2 : CountStands s s2 := (lampDerive_keeps _).stands rfl ((deriveClosed_keeps _).stands rfl
    ((planCore_keeps _).stands rfl ((warmZ_keeps _).stands rfl ((warmPump_keeps _).stands rfl h1))))
  exact ⟨h2.nozzle, h2.count⟩

theorem answerRestart_stands (s : State) : CountStands s (answerRestart s).state := by
  unfold answerRestart
  split
  · exact .refl s
  · exact warmReset_stands s

theorem deliver_stands {s : State} {a : Answer} (tag : Byte) (kind : Nat) (h : CountStands s a.state) :
    CountStands s (deliver tag kind a) := by
  rw [deliver_eq]
  exact ⟨h.nozzle, h.count⟩

theorem restartWithRoom_stands (tag : Byte) (s : State) : CountStands s (restartWithRoom tag s) := by
  unfold restartWithRoom
  extract_lets a s1
  have h1 : CountStands s s1 := deliver_stands tag 0x10 (answerRestart_stands s)
  split
  · exact (afterWarmReset_keeps _).stands rfl ⟨h1.nozzle, h1.count⟩
  · exact h1

/-! ## Events that leave the count as it stands -/

theorem settleExpiry_stands (s : State) : CountStands s (settleExpiry s) := by
  unfold settleExpiry
  split
  · exact (done_keeps _).stands rfl (endPreparing_stands s)
  · exact .refl s

theorem leadExpiry_stands (s : State) : CountStands s (leadExpiry s) := by
  unfold leadExpiry
  split
  · exact (done_keeps _).stands rfl (openValve_stands s)
  · exact .refl s

theorem jetClosedNow_stands (s : State) : CountStands s (jetClosedNow s) :=
  (enterPreparing_stands _).after ((pumpValveClosed_keeps _).stands rfl ((wearTold_stands ..).after
    ((recoveryAtSwitch_keeps _).stands rfl ((setJet_keeps ..).stands rfl (.refl s)))))

theorem switchActive_stands (s : State) : CountStands s (switchActive s) := by
  unfold switchActive
  extract_lets l s1
  have h1 : CountStands s s1 := (setLines_keeps ..).stands rfl (.refl s)
  split
  · exact (done_keeps _).stands rfl ((jetClosedNow_stands _).after h1)
  · exact h1

theorem switchInactive_stands (s : State) : CountStands s (switchInactive s) := by
  unfold switchInactive
  extract_lets l s1
  have h1 : CountStands s s1 := (setLines_keeps ..).stands rfl (.refl s)
  split
  · exact (pumpValveOpen_keeps _).stands rfl ((wearTold_stands ..).after ((setJet_keeps ..).stands rfl h1))
  · exact h1

theorem startExpiry_stands (s : State) : CountStands s (startExpiry s) := by
  unfold startExpiry
  split
  · exact pumpDone_stands ((raiseFault_keeps ..).stands rfl ((pumpStop_keeps s).stands rfl (.refl s)))
  · exact .refl s

theorem rampExpiry_stands (s : State) : CountStands s (rampExpiry s) := by
  unfold rampExpiry
  split
  · exact pumpDone_stands ((raiseFault_keeps ..).stands rfl ((pumpStop_keeps s).stands rfl (.refl s)))
  · exact .refl s

theorem bandExpiry_stands (s : State) : CountStands s (bandExpiry s) := by
  unfold bandExpiry
  split
  · extract_lets p s1
    have h1 : CountStands s s1 := (setPump_keeps ..).stands rfl (.refl s)
    split
    · exact pumpDone_stands ((raiseFault_keeps ..).stands rfl h1)
    · exact pumpDone_stands ((enterRamping_keeps ..).stands rfl h1)
  · exact .refl s

theorem takeReading_stands (s : State) : CountStands s (takeReading s) := by
  unfold takeReading
  cases s.pump.state
  case ramping =>
    dsimp only
    split
    · exact pumpDone_stands ((rampEnds_keeps s).stands rfl (.refl s))
    · exact .refl s
  case steady => exact (steadyReading_keeps s).stands rfl (.refl s)
  all_goals exact .refl s

theorem standbyExpiry_stands (s : State) : CountStands s (standbyExpiry s) := by
  unfold standbyExpiry
  split
  · exact pumpDone_stands ((levelRequest_keeps ..).stands rfl ((setPump_keeps ..).stands rfl (.refl s)))
  · exact .refl s

theorem offExpiry_stands (s : State) : CountStands s (offExpiry s) := by
  unfold offExpiry
  split
  · exact pumpDone_stands ((levelRequest_keeps ..).stands rfl ((setPump_keeps ..).stands rfl (.refl s)))
  · exact .refl s

theorem gapExpiry_stands (s : State) : CountStands s (gapExpiry s) := by
  unfold gapExpiry
  split <;> exact ⟨rfl, rfl⟩

theorem guardCloses_stands (z : Zone) (s : State) : CountStands s (guardCloses z s) := by
  unfold guardCloses
  extract_lets s1
  have h1 : CountStands s s1 := (deriveClosed_keeps _).stands rfl ((setLines_keeps ..).stands rfl (.refl s))
  repeat' split
  · exact h1
  · exact (proceed_stands _).after ((planCore_keeps _).stands rfl h1)
  · exact (replan_keeps _).stands rfl h1

/-! ## What keeps the count sound -/

/-- A count that stands stays sound. -/
theorem WearSound.stands {s t : State} (h : WearSound s) (k : CountStands s t) : WearSound t := by
  obtain ⟨hn, hw⟩ := k
  have hresidue : t.wear.residue = s.wear.residue := by rw [hw]
  have hseconds : t.wear.seconds = s.wear.seconds := by rw [hw]
  have hminutes : t.wear.minutes = s.wear.minutes := by rw [hw]
  have halarm : t.wear.alarm = s.wear.alarm := by rw [hw]
  have hkerf : t.wear.kerf = s.wear.kerf := by rw [hw]
  constructor <;> simp only [hn, hresidue, hseconds, hminutes, halarm, hkerf]
  exacts [h.residue, h.seconds, h.minutes, h.saturated, h.absent, h.kerf, h.range, h.alarm]

theorem wearSound_reset : WearSound State.reset := by
  constructor <;> simp [State.reset]

/-- The compare sets the alarm once the compare value has been reached, and nothing else of the counter (R168). -/
theorem wearCompare_wear (n : NozzleRec) (s : State) :
    (wearCompare n s).wear =
      { s.wear with alarm := s.wear.alarm || decide (0 < n.compare ∧ n.compare ≤ s.wear.minutes) } := by
  unfold wearCompare
  split
  · next h => simp [post, h]
  · next h =>
    have halarm : (s.wear.alarm || decide (0 < n.compare ∧ n.compare ≤ s.wear.minutes)) = s.wear.alarm := by
      cases ha : s.wear.alarm <;> simp_all
    rw [halarm]

/-- The one WEAR report, posted when the compare sets the alarm (R168, R169). -/
theorem wearCompare_posts (n : NozzleRec) (s : State) :
    Posts s (wearCompare n s)
      (if 0 < n.compare ∧ n.compare ≤ s.wear.minutes ∧ s.wear.alarm = false
       then [.wear s.wear.minutes n.compare s.wear.kerf true] else []) := by
  unfold wearCompare
  split
  · exact post_posts ..
  · exact posts_nil rfl

theorem nozzleAccepted_wear (n : NozzleRec) (used : Nat) (s : State) :
    (nozzleAccepted n used s).wear =
      { s.wear with
        minutes := used, seconds := 0, residue := 0, kerf := kerfOf n used
        alarm := decide (0 < n.compare ∧ n.compare ≤ used) } := by
  unfold nozzleAccepted
  exact wearCompare_wear ..

/-- The WEAR report of an accepted record, whose alarm has just been cleared (R57, R169). -/
theorem nozzleAccepted_posts (n : NozzleRec) (used : Nat) (s : State) :
    Posts s (nozzleAccepted n used s)
      (if 0 < n.compare ∧ n.compare ≤ used then [.wear used n.compare (kerfOf n used) true] else []) := by
  have h := wearCompare_posts n (s.setWear
    { s.wear with minutes := used, seconds := 0, residue := 0, alarm := false, kerf := kerfOf n used })
  simp only [State.setWear_wear, and_true] at h
  exact h

/-- A minute event below the bound of the minutes (R166 to R168). -/
theorem minuteRise_wear (n : NozzleRec) {s : State} (h : s.wear.minutes < 999999) :
    (minuteRise n s).wear =
      { s.wear with
        minutes := s.wear.minutes + 1, seconds := 0, residue := 0, kerf := kerfOf n (s.wear.minutes + 1)
        alarm := s.wear.alarm || decide (0 < n.compare ∧ n.compare ≤ s.wear.minutes + 1) } := by
  have hsat : satAdd 999999 s.wear.minutes 1 = s.wear.minutes + 1 := Nat.min_eq_right h
  unfold minuteRise
  rw [hsat]
  exact wearCompare_wear ..

/-- Time is counted with a Nozzle record, up to the bound of the minutes (R166). -/
theorem wearRuns_iff {s : State} :
    s.wearRuns = true ↔ s.wear.timing = true ∧ s.tables.nozzle.isSome ∧ s.wear.minutes < 999999 := by
  simp [State.wearRuns, and_assoc]

/-- The counter of a Nozzle record at a whole minute, with its kerf and its alarm as the minutes give them. -/
theorem wearSound_of_minute {n : NozzleRec} {t : State} (hn : t.tables.nozzle = some n) (hrange : n.k0 ≤ n.kMax)
    (hm : t.wear.minutes ≤ 999999) (hs : t.wear.seconds = 0) (hr : t.wear.residue = 0)
    (hk : t.wear.kerf = kerfOf n t.wear.minutes)
    (ha : t.wear.alarm = true ↔ 0 < n.compare ∧ n.compare ≤ t.wear.minutes) : WearSound t where
  residue := by omega
  seconds := by omega
  minutes := hm
  saturated _ := ⟨hs, hr⟩
  absent h := by simp [hn] at h
  kerf m e := by
    obtain rfl : n = m := Option.some.inj (hn.symm.trans e)
    exact hk
  range m e := by
    obtain rfl : n = m := Option.some.inj (hn.symm.trans e)
    exact hrange
  alarm m e := by
    obtain rfl : n = m := Option.some.inj (hn.symm.trans e)
    exact ha

/-- Below the bound of the minutes, the seconds and the residue may take any value short of the next minute (R166). -/
theorem WearSound.count {s : State} {n : NozzleRec} (h : WearSound s) (hn : s.tables.nozzle = some n)
    (hm : s.wear.minutes < 999999) {residue seconds : Nat} (hr : residue < 1000) (hs : seconds < 60) :
    WearSound (s.setWear { s.wear with residue := residue, seconds := seconds }) where
  residue := hr
  seconds := hs
  minutes := h.minutes
  saturated e := absurd e hm.ne
  absent e := by simp [hn] at e
  kerf := h.kerf
  range := h.range
  alarm := h.alarm

/-- The alarm of a sound count stands from the minute at which the compare value is reached (R168). -/
theorem minuteRise_wearSound {s : State} {n : NozzleRec} (h : WearSound s) (hn : s.tables.nozzle = some n)
    (hm : s.wear.minutes < 999999) : WearSound (minuteRise n s) := by
  have hw := minuteRise_wear n hm
  have ht : (minuteRise n s).tables.nozzle = some n := by rw [(minuteRise_keeps n s).tables, hn]
  refine wearSound_of_minute ht (h.range n hn) ?_ ?_ ?_ ?_ ?_ <;> rw [hw]
  · exact hm
  · have := h.alarm n hn
    simp only [Bool.or_eq_true, decide_eq_true_eq, this]
    omega

theorem minuteReached_wearSound {s : State} (h : WearSound s) : WearSound (minuteReached s) := by
  unfold minuteReached
  split
  · next n hn =>
    split
    · next hruns => exact minuteRise_wearSound h hn (wearRuns_iff.mp hruns).2.2
    · exact h
  · exact h

/-- A millisecond of jet-on time: the residue, the seconds or the minutes rise (R166). -/
theorem wearMs_wearSound {s : State} (h : WearSound s) : WearSound (wearMs s) := by
  unfold wearMs
  split
  · exact h
  · next n hn =>
    split
    · next hruns =>
      obtain ⟨-, -, hm⟩ := wearRuns_iff.mp hruns
      split
      · next hr => exact h.count hn hm hr h.seconds
      · split
        · next hs => exact h.count hn hm (by decide) hs
        · exact minuteRise_wearSound h hn hm
    · exact h

theorem tick_wearSound {s : State} (h : WearSound s) : WearSound (tick s) := by
  unfold tick
  extract_lets j l s1
  have h1 : WearSound ((s1.setJet (jetMs s1.jet)).setPump (pumpMs s1.pump)) := h.stands ⟨rfl, rfl⟩
  exact (wearMs_wearSound h1).stands ⟨rfl, rfl⟩

/-! ## Nozzle records -/

/-- A Nozzle record whose fields are all in range (R56). -/
theorem nozzleChecks_none {r : NozzleReq} (h : firstFault (nozzleChecks r) = none) :
    r.k0 ≤ r.kMax ∧ r.used ≤ 999999 := by
  have hall := firstFault_eq_none.mp h
  simp only [nozzleChecks, List.forall_mem_cons, within_iff] at hall
  obtain ⟨-, -, hmax, -, hused, -⟩ := hall
  exact ⟨hmax.1, hused.2⟩

/-- An accepted record starts the count anew at the minutes it gives (R57). -/
theorem answerNozzle_wearSound {s : State} (r : NozzleReq) (h : WearSound s) : WearSound (answerNozzle r s).state := by
  unfold answerNozzle
  split
  · split
    · exact h
    · next hr =>
      obtain ⟨hrange, hused⟩ := nozzleChecks_none hr
      have hn := congrArg Tables.nozzle (nozzleAccepted_keeps (nozzleRecOf r) r.used
        (s.setTables { s.tables with nozzle := some (nozzleRecOf r) })).tables
      refine wearSound_of_minute hn hrange ?_ ?_ ?_ ?_ ?_ <;> simp only [okAnswer, nozzleAccepted_wear]
      · exact hused
      · exact decide_eq_true_iff
  · exact h

/-- Whatever the owner of a request answers, the count stays sound. -/
theorem answerOf_wearSound {s : State} (r : Request) (h : WearSound s) : WearSound (answerOf r s).state := by
  cases r with
  | configure r => exact h.stands (answerConfigure_stands r s)
  | material r => exact h.stands (answerMaterial_stands r s)
  | nozzle r => exact answerNozzle_wearSound r h
  | template r => exact h.stands (answerTemplate_stands r s)
  | segment r => exact h.stands (answerSegment_stands r s)
  | place r => exact h.stands (answerPlace_stands r s)
  | run => exact h.stands (answerRun_stands s)
  | hold => exact h.stands (answerHold_stands s)
  | resume => exact h.stands (answerResume_stands s)
  | stop => exact h.stands (answerStop_stands s)
  | clear => exact h.stands (answerClear_stands s)
  | reference => exact h.stands (answerReference_stands s)
  | pressure level slot => exact h.stands (answerPressure_stands level slot s)
  | override percent => exact h.stands ((takeOverride_keeps percent s).stands rfl (.refl s))
  | query => exact h
  | restart => exact h.stands (answerRestart_stands s)

/-! ## Every command -/

theorem deliver_wearSound {a : Answer} (tag : Byte) (kind : Nat) (h : WearSound a.state) :
    WearSound (deliver tag kind a) := h.stands (deliver_stands tag kind (.refl _))

/-- A request's command keeps the count sound, whether it finds room for its reply or not (R173). -/
theorem next_serve_wearSound {s t : State} {tag : Byte} {kind : Nat} (r : Request) (h : WearSound s)
    (e : (Host.Outcome.next (serve tag kind (answerOf r) s) : Host.Outcome State Fault Refusal) = .next t) :
    WearSound t := by
  cases e
  unfold serve
  split
  · exact (deliver_wearSound tag kind (answerOf_wearSound r h)).stands ⟨rfl, rfl⟩
  · exact h.stands ⟨rfl, rfl⟩

theorem frameDone_wearSound {s : State} (kind : Nat) (tag : Byte) (payload : List Byte) (h : WearSound s) :
    WearSound (frameDone kind tag payload s) := by
  unfold frameDone
  repeat' split
  · exact deliver_wearSound tag kind h
  · exact h.stands (restartWithRoom_stands tag s)
  · exact deliver_wearSound tag kind (answerOf_wearSound _ h)
  · exact deliver_wearSound tag kind h
  · exact deliver_wearSound tag kind h
  · exact h.stands ⟨rfl, rfl⟩

/-- The framer's own bookkeeping leaves the count; a frame that a byte completes may carry a request (R172, R173). -/
theorem takeByte_wearSound {s : State} (b : Byte) (h : WearSound s) : WearSound (takeByte b s) := by
  unfold takeByte
  cases s.link.phase with
  | hunt => dsimp only; split <;> exact h.stands ⟨rfl, rfl⟩
  | sync =>
    dsimp only
    repeat' split
    all_goals exact h.stands ⟨rfl, rfl⟩
  | header =>
    dsimp only [headerByte]
    repeat' split
    all_goals exact h.stands ⟨rfl, rfl⟩
  | payload => exact h.stands ⟨rfl, rfl⟩
  | check =>
    dsimp only [checkByte]
    repeat' split
    · exact h.stands ⟨rfl, rfl⟩
    · exact frameDone_wearSound _ _ _ (h.stands ⟨rfl, rfl⟩)
    · exact h.stands ⟨rfl, rfl⟩

theorem powerOn_wearSound (s : State) : WearSound (powerOn s) :=
  wearSound_reset.stands ((tripsAfterReset_keeps _).stands rfl ⟨rfl, rfl⟩)

theorem exec_wearSound {c : Instr} {s t : State} (h : WearSound s) (e : exec c s = .next t) : WearSound t := by
  have hs := CountStands.refl s
  cases c with
  | configure tag r => exact next_serve_wearSound (.configure r) h e
  | material tag r => exact next_serve_wearSound (.material r) h e
  | nozzle tag r => exact next_serve_wearSound (.nozzle r) h e
  | template tag r => exact next_serve_wearSound (.template r) h e
  | segment tag r => exact next_serve_wearSound (.segment r) h e
  | place tag r => exact next_serve_wearSound (.place r) h e
  | run tag => exact next_serve_wearSound .run h e
  | hold tag => exact next_serve_wearSound .hold h e
  | resume tag => exact next_serve_wearSound .resume h e
  | stop tag => exact next_serve_wearSound .stop h e
  | clear tag => exact next_serve_wearSound .clear h e
  | reference tag => exact next_serve_wearSound .reference h e
  | pressure tag level slot => exact next_serve_wearSound (.pressure level slot) h e
  | override tag percent => exact next_serve_wearSound (.override percent) h e
  | query tag => exact next_serve_wearSound .query h e
  | restart tag =>
    cases e
    split
    · exact (h.stands (restartWithRoom_stands tag s)).stands ⟨rfl, rfl⟩
    · exact h.stands ⟨rfl, rfl⟩
  | receivedByte b => cases e; exact (takeByte_wearSound b h).stands ⟨rfl, rfl⟩
  | gapTimerExpiry => cases e; exact h.stands (gapExpiry_stands s)
  | transmitComplete => cases e; exact h.stands ⟨rfl, rfl⟩
  | powerOnReset => cases e; exact powerOn_wearSound s
  | tripInputActive k =>
    cases e
    exact h.stands (wrapUp_stands ((raiseTrip_keeps ..).stands rfl ((setLines_keeps ..).stands rfl hs)))
  | tripInputInactive k => cases e; exact h.stands ⟨rfl, rfl⟩
  | residencyExpiry => cases e; exact h.stands ⟨rfl, rfl⟩
  | interpolationPeriod fbX fbY homeX homeY => cases e; exact h.stands (wrapUp_stands (period_stands ..))
  | homingTimeout => cases e; exact h.stands (wrapUp_stands ((homingTimedOut_keeps s).stands rfl hs))
  | zReachedChange z =>
    cases e
    exact h.stands (wrapUp_stands ((settle_keeps _).stands rfl ((seqAdvance_stands _).after
      ((homingSeek_keeps _).stands rfl ((zReach_keeps z s).stands rfl hs)))))
  | zTimeout => cases e; exact h.stands (wrapUp_stands ((zTimedOut_keeps s).stands rfl hs))
  | driveReadyInactive a =>
    cases e
    have h1 := (setLines_keeps s (setReady a false s.lines)).stands rfl hs
    refine h.stands (wrapUp_stands ?_)
    split
    · exact (raiseFault_keeps ..).stands rfl h1
    · exact h1
  | driveReadyActive a => cases e; exact h.stands ⟨rfl, rfl⟩
  | settleTimerExpiry => cases e; exact (h.stands (settleExpiry_stands s)).stands ⟨rfl, rfl⟩
  | leadTimerExpiry => cases e; exact (h.stands (leadExpiry_stands s)).stands ⟨rfl, rfl⟩
  | dwellTimerExpiry => cases e; exact (h.stands ((dwellExpiry_keeps s).stands rfl hs)).stands ⟨rfl, rfl⟩
  | valveSwitchActive => cases e; exact (h.stands (switchActive_stands s)).stands ⟨rfl, rfl⟩
  | valveSwitchInactive => cases e; exact (h.stands (switchInactive_stands s)).stands ⟨rfl, rfl⟩
  | valveTimerExpiry => cases e; exact (h.stands ((valveTimedOut_keeps s).stands rfl hs)).stands ⟨rfl, rfl⟩
  | abrasivePulse =>
    cases e
    split
    · exact h.stands ((armMonitor_keeps s).stands rfl hs)
    · exact h
  | abrasiveWindowExpiry => cases e; exact (h.stands ((windowExpiry_keeps s).stands rfl hs)).stands ⟨rfl, rfl⟩
  | pumpRunningActive =>
    cases e
    have h1 := (setLines_keeps s { s.lines with pumpRunning := true }).stands rfl hs
    refine h.stands ?_
    split
    · exact pumpDone_stands ((startEnds_keeps _).stands rfl h1)
    · exact h1
  | pumpRunningInactive =>
    cases e
    have h1 := (setLines_keeps s { s.lines with pumpRunning := false }).stands rfl hs
    refine h.stands ?_
    split
    · exact pumpDone_stands ((runningLost_keeps _).stands rfl h1)
    · exact h1
  | startTimerExpiry => cases e; exact h.stands (startExpiry_stands s)
  | transducerReading mpa =>
    cases e
    exact h.stands ((takeReading_stands _).after ⟨rfl, rfl⟩)
  | rampTimerExpiry => cases e; exact h.stands (rampExpiry_stands s)
  | bandTimerExpiry => cases e; exact h.stands (bandExpiry_stands s)
  | standbyTimerExpiry => cases e; exact h.stands (standbyExpiry_stands s)
  | offTimerExpiry => cases e; exact h.stands (offExpiry_stands s)
  | guardOpen z =>
    cases e
    exact (h.stands ((done_keeps _).stands rfl ((guardOpens_keeps z s).stands rfl hs))).stands ⟨rfl, rfl⟩
  | guardClosed z =>
    cases e
    exact (h.stands ((done_keeps _).stands rfl (guardCloses_stands z s))).stands ⟨rfl, rfl⟩
  | minuteEvent => cases e; exact (minuteReached_wearSound h).stands ⟨rfl, rfl⟩

/-- Settles O6: the front command, a timer that has run out, or a millisecond of jet-on time keeps the count sound. -/
theorem wearCountKept : Obligations.WearCountKept := by
  intro s t h e
  unfold step at e
  split at e
  · next c rest _ => exact exec_wearSound (h.stands (t := s.setPending rest) ⟨rfl, rfl⟩) e
  · unfold idleStep at e
    split at e
    · exact exec_wearSound h e
    · cases e
      exact tick_wearSound h

end Sys2Proof.Machine
end

section
/-! PROOFS. The definition requests of the Table Store: MATERIAL (O22), NOZZLE (O23, O24) and TEMPLATE (O25). -/

namespace Sys2Proof.Machine

open Sys2Proof

/-! ## Answers as replies -/

/-- A taken request whose owner changes the tables alone is answered OK, with its detail word (R4, R174). -/
theorem serve_tables {s : State} {tag : Byte} {kind detail : Nat} {answer : State → Answer} (tables : Tables)
    (hroom : s.hasRoom = true) (ha : answer s = okAnswer (some detail) (s.setTables tables)) :
    Replied s (serve tag kind answer s) tag kind .ok (some detail) false []
      ∧ serve tag kind answer s = { s with tables := tables, link := (serve tag kind answer s).link } :=
  ⟨replied_of_ok hroom tag kind _ _ ha rfl rfl, serve_ok_eq hroom tag kind _ _ ha⟩

/-- Material and Template are taken in every state but UNCONFIGURED and TRIP (R50). -/
theorem tablesTaken_of {st : CtrlState} (hu : st ≠ .unconfigured) (ht : st ≠ .trip) : tablesTaken st = true := by
  cases st
  case unconfigured => exact absurd rfl hu
  case trip => exact absurd rfl ht
  all_goals rfl

/-! ## Material -/

theorem useCount_eq (s : State) (k : Fin 8) : useCount s k.val = s.queue.uses[k] := by
  simp [useCount]

/-- A slot that takes a record holds it, and the other slots hold what they held (R52). -/
theorem putMaterial_get (t : Tables) (slot : Nat) (m : MaterialRec) (j : Fin 8) :
    (putMaterial t slot m).materials[j] = if j.val = slot then some m else t.materials[j] := by
  simp [putMaterial]

/-- The stored form of a record whose pierce method is one of the three of Table 11-10 (R52). -/
theorem materialRecOf_eq {r : MaterialReq} (h : r.method = 1 ∨ r.method = 2 ∨ r.method = 3) :
    materialRecOf r =
      { q1 := r.q1, q2 := r.q2, q3 := r.q3, q4 := r.q4, q5 := r.q5, pPierce := r.pPierce, pCut := r.pCut
        dwell := r.dwell
        method := if r.method = 1 then .stationary else if r.method = 2 then .moving else .drilled
        creepSpeed := r.creepSpeed, rate := r.rate, knee := r.knee, arcFloor := r.arcFloor, cMin := r.cMin } := by
  rcases h with h | h | h <;> simp [materialRecOf, methodOf, h]

/-- A Material record that a check of R51 turns away is answered with that refusal, and nothing changes. -/
theorem exec_material_refused {tag : Byte} {r : MaterialReq} {s : State} {code : ResultCode} {detail : Nat}
    (hroom : s.hasRoom = true) (ht : tablesTaken s.job.state = true) (h : materialRefusal s r = some (code, detail)) :
    ∃ t, exec (.material tag r) s = .next t ∧ Refused s t tag 0x02 code (some detail) :=
  ⟨_, rfl, refused_of_refuse hroom tag 0x02 code _ (answerMaterial r) (by simp [answerMaterial, ht, h])⟩

/-- Settles O22: slot number, use count and fields are checked in that order, and a record that passes all three takes
its slot. -/
theorem materialCheckedAndStored : Obligations.MaterialCheckedAndStored := by
  intro tag r s hroom hu htrip
  have ht := tablesTaken_of hu htrip
  refine ⟨fun hslot => exec_material_refused hroom ht (if_pos hslot), fun k hk => ?_⟩
  have hslot : ¬ 7 < r.slot := by omega
  have huse : useCount s r.slot = s.queue.uses[k] := by rw [hk, useCount_eq]
  refine ⟨fun hused => ?_, fun n hfree hn => ?_, fun hfree hall => ?_⟩
  · exact exec_material_refused hroom ht (by simp only [materialRefusal, hslot, huse, hused, if_true, if_false])
  · have hfault := (materialChecks_fields r).firstFault_of_outOfRange rfl hn
    exact exec_material_refused hroom ht (by simp [materialRefusal, hslot, huse, hfree, hfault])
  · have hfault := (materialChecks_fields r).firstFault_of_inRange rfl hall
    have ha : answerMaterial r s
        = okAnswer (some r.slot) (s.setTables (putMaterial s.tables r.slot (materialRecOf r))) := by
      simp [answerMaterial, ht, materialRefusal, hslot, huse, hfree, hfault]
    obtain ⟨hreply, heq⟩ := serve_tables (tag := tag) (kind := 0x02) _ hroom ha
    have htables := congrArg State.tables heq
    refine ⟨_, rfl, hreply, ?_, ?_, fun j hj => ?_, ?_⟩
    · rw [htables]; exact heq
    · rw [htables]; rfl
    · rw [htables, putMaterial_get, if_neg (fun e => hj (Fin.ext (e.trans hk)))]
    · rw [htables, putMaterial_get, if_pos hk.symm, materialRecOf_eq (hall 10 (by decide) (by decide))]

/-! ## Nozzle -/

/-- Nozzle is taken in IDLE, HOMING and FAULT (R50). -/
theorem nozzleTaken_of {st : CtrlState} (h : st = .idle ∨ st = .homing ∨ st = .fault) : nozzleTaken st = true := by
  rcases h with h | h | h <;> rw [h] <;> rfl

/-- Settles O23. -/
theorem nozzleRefusedAtFirstField : Obligations.NozzleRefusedAtFirstField := by
  intro tag r s n hroom hst hn
  have ht := nozzleTaken_of hst
  have hfault := (nozzleChecks_fields r).firstFault_of_outOfRange rfl hn
  exact ⟨_, rfl, refused_of_refuse hroom tag 0x03 .range _ (answerNozzle r) (by simp [answerNozzle, ht, hfault])⟩

/-- An operation of the Wear Counter changes its block and posts, and nothing else. -/
theorem Keeps.eq_of_wear {s t : State} (k : Keeps [.wear] s t) : t = { s with wear := t.wear, link := t.link } := by
  obtain ⟨job, queue, plan, axis, jet, pump, zone, -, lines, config, tables, freeCount, pending, -⟩ := k
  cases t
  simp_all

/-- The owner's answer to a record that passes: the kerf estimate, and the counter set by the record (R57). -/
theorem answerNozzle_accepted {r : NozzleReq} {s : State} (ht : nozzleTaken s.job.state = true)
    (hall : AllInRange (nozzleField r) 1 5) :
    answerNozzle r s = okAnswer (some (kerfOf (nozzleRecOf r) r.used))
      (nozzleAccepted (nozzleRecOf r) r.used (s.setTables { s.tables with nozzle := some (nozzleRecOf r) })) := by
  simp only [answerNozzle, ht, (nozzleChecks_fields r).firstFault_of_inRange rfl hall, if_true]

/-- Settles O24, by what accepting a record makes of the counter and what it posts. The plain name is that of the
model's own operation. -/
theorem nozzle_accepted : Obligations.NozzleAccepted := by
  intro tag r s hroom hst hall kerf worn
  have ha := answerNozzle_accepted (nozzleTaken_of hst) hall
  have hk := nozzleAccepted_keeps (nozzleRecOf r) r.used (s.setTables { s.tables with nozzle := some (nozzleRecOf r) })
  refine ⟨_, rfl, ?_, ?_⟩
  · simp only [worn, decide_eq_true_eq]
    exact replied_of_ok hroom tag 0x03 _ _ ha hk.freeCount (nozzleAccepted_posts ..)
  · have heq := serve_ok_eq hroom tag 0x03 _ _ ha
    rw [hk.eq_of_wear, nozzleAccepted_wear] at heq
    exact heq

/-! ## Template -/

/-- A slot that takes a record holds it, and the other slots hold what they held (R61). -/
theorem putTemplate_get (t : Tables) (slot : Nat) (m : TemplateRec) (j : Fin 16) :
    (putTemplate t slot m).templates[j] = if j.val = slot then some m else t.templates[j] := by
  simp [putTemplate]

/-- The stored form of a record whose direction and pierce method are those of Table 11-10 (R61). -/
theorem templateRecOf_eq {r : TemplateReq} (hd : r.direction ≤ 1) (hm : r.method ≤ 3) :
    templateRecOf r =
      { width := r.width, depth := r.depth, radius := r.radius, leadIn := r.leadIn, bridge := r.bridge
        direction := if r.direction = 0 then .cw else .ccw
        quality := r.quality, material := r.material
        method := if r.method = 0 then none else if r.method = 1 then some .stationary
          else if r.method = 2 then some .moving else some .drilled } := by
  have hdir : (directionOf r.direction).getD .cw = if r.direction = 0 then .cw else .ccw := by
    obtain h | h : r.direction = 0 ∨ r.direction = 1 := by omega
    all_goals simp [directionOf, h]
  obtain h | h | h | h : r.method = 0 ∨ r.method = 1 ∨ r.method = 2 ∨ r.method = 3 := by omega
  all_goals simp [templateRecOf, methodOf, hdir, h]

/-- A Template record that a check of R60 turns away is answered with that refusal, and nothing changes. -/
theorem exec_template_refused {tag : Byte} {r : TemplateReq} {s : State} {code : ResultCode} {detail : Nat}
    (hroom : s.hasRoom = true) (ht : tablesTaken s.job.state = true) (h : templateRefusal r = some (code, detail)) :
    ∃ t, exec (.template tag r) s = .next t ∧ Refused s t tag 0x04 code (some detail) :=
  ⟨_, rfl, refused_of_refuse hroom tag 0x04 code _ (answerTemplate r) (by simp [answerTemplate, ht, h])⟩

/-- Settles O25: slot number and fields are checked in that order, and a record that passes both takes its slot. -/
theorem templateCheckedAndStored : Obligations.TemplateCheckedAndStored := by
  intro tag r s hroom hu htrip
  have ht := tablesTaken_of hu htrip
  refine ⟨fun hslot => exec_template_refused hroom ht (if_pos hslot), fun n hle hn => ?_, fun k hk hall => ?_⟩
  · have hfault := (templateChecks_fields r).firstFault_of_outOfRange rfl hn
    exact exec_template_refused hroom ht (by simp [templateRefusal, hle.not_gt, hfault])
  · have hslot : ¬ 15 < r.slot := by omega
    have hfault := (templateChecks_fields r).firstFault_of_inRange rfl hall
    have ha : answerTemplate r s
        = okAnswer (some r.slot) (s.setTables (putTemplate s.tables r.slot (templateRecOf r))) := by
      simp [answerTemplate, ht, templateRefusal, hslot, hfault]
    obtain ⟨hreply, heq⟩ := serve_tables (tag := tag) (kind := 0x04) _ hroom ha
    have htables := congrArg State.tables heq
    refine ⟨_, rfl, hreply, ?_, ?_, fun j hj => ?_, ?_⟩
    · rw [htables]; exact heq
    · rw [htables]; rfl
    · rw [htables, putTemplate_get, if_neg (fun e => hj (Fin.ext (e.trans hk)))]
    · rw [htables, putTemplate_get, if_pos hk.symm,
        templateRecOf_eq (hall 7 (by decide) (by decide)) (hall 10 (by decide) (by decide))]

end Sys2Proof.Machine
end

section
/-! PROOFS. PLACE: its ordered checks (O30, R65), and the compensation of records in range (O32, R68 to R70, R73). -/

namespace Sys2Proof.Machine

open Sys2Proof

/-! ## Compensation (R68 to R70, R73) -/

@[simp] theorem compensate_a (t : TemplateRec) (k rMin : Nat) :
    (compensate t k rMin).a = ((t.width : Int) - k) / 2 := rfl

@[simp] theorem compensate_b (t : TemplateRec) (k rMin : Nat) :
    (compensate t k rMin).b = ((t.depth : Int) - k) / 2 := rfl

/-- R′ is enlarged to r_min where the compensated radius is less (R68). -/
theorem compensate_radius (t : TemplateRec) (k rMin : Nat) :
    (compensate t k rMin).radius
      = max (roundEndRadius t k (compensate t k rMin).a (compensate t k rMin).b) rMin := by
  simp only [compensate, decide_eq_true_eq]
  split <;> omega

/-- The lead-in is clamped to the half-depth (R70). -/
theorem compensate_leadIn (t : TemplateRec) (k rMin : Nat) :
    (compensate t k rMin).leadIn = min (t.leadIn : Int) (compensate t k rMin).b := by
  simp only [compensate, decide_eq_true_eq]
  split <;> omega

/-- The bridge is clamped to the final half line, and is 0 where there is none (R73). -/
theorem compensate_bridge (t : TemplateRec) (k rMin : Nat) :
    (compensate t k rMin).bridge = if (compensate t k rMin).a = (compensate t k rMin).radius then 0
      else min (t.bridge : Int) ((compensate t k rMin).a - (compensate t k rMin).radius) := rfl

/-- The compensated width holds 2R′ exactly when the half-width reaches R′ (R69). -/
theorem compensate_widthFails (t : TemplateRec) (k rMin : Nat) :
    (compensate t k rMin).widthFails = false ↔ (compensate t k rMin).radius ≤ (compensate t k rMin).a := by
  have hw : (compensate t k rMin).widthFails = decide ((t.width : Int) - k < 2 * (compensate t k rMin).radius) := rfl
  rw [hw, decide_eq_false_iff_not, compensate_a]
  omega

/-- The same for the depth (R69). -/
theorem compensate_depthFails (t : TemplateRec) (k rMin : Nat) :
    (compensate t k rMin).depthFails = false ↔ (compensate t k rMin).radius ≤ (compensate t k rMin).b := by
  have hd : (compensate t k rMin).depthFails = decide ((t.depth : Int) - k < 2 * (compensate t k rMin).radius) := rfl
  rw [hd, decide_eq_false_iff_not, compensate_b]
  omega

/-- A radius of at most half the lesser dimension stays within both half-dimensions after compensation. Where it is that
half, the rounding of an odd kerf could exceed them by 1 µm: there R68 takes the least of the three. -/
theorem roundEndRadius_le {t : TemplateRec} (k rMin : Nat) (h : t.radius ≤ min t.width t.depth / 2) :
    roundEndRadius t k (compensate t k rMin).a (compensate t k rMin).b
      ≤ min (compensate t k rMin).a (compensate t k rMin).b := by
  simp only [roundEndRadius, compensate_a, compensate_b]
  split <;> omega

/-- Settles O32: the half-dimensions reach the compensated radius (`roundEndRadius_le`) and, being at least 7,500 µm,
r_min as well; the lead-in and the bridge are clamped to what is left. -/
theorem inRangeTemplatesAlwaysFit : Obligations.InRangeTemplatesAlwaysFit := by
  intro r kerf rMin hall hk _ hmin c
  have hwidth : 20000 ≤ r.width ∧ r.width ≤ 2000000 := hall 2 (by decide) (by decide)
  have hdepth : 20000 ≤ r.depth ∧ r.depth ≤ 2000000 := hall 3 (by decide) (by decide)
  have hround : roundEndRadius (templateRecOf r) kerf c.a c.b ≤ min c.a c.b :=
    roundEndRadius_le kerf rMin (hall 4 (by decide) (by decide))
  have ha : c.a = ((r.width : Int) - kerf) / 2 := rfl
  have hb : c.b = ((r.depth : Int) - kerf) / 2 := rfl
  have hradius : c.radius = max (roundEndRadius (templateRecOf r) kerf c.a c.b) rMin := compensate_radius ..
  have hlow : (rMin : Int) ≤ c.radius := by omega
  have hfits : c.radius ≤ c.a ∧ c.radius ≤ c.b := by omega
  have hlead : c.leadIn = min (r.leadIn : Int) c.b := compensate_leadIn ..
  have hbridge : c.bridge = if c.a = c.radius then 0 else min (r.bridge : Int) (c.a - c.radius) := compensate_bridge ..
  have hbounds : 0 ≤ c.bridge ∧ c.radius + c.bridge ≤ c.a := by
    rw [hbridge]
    split <;> omega
  exact ⟨hlow, hfits.1, hfits.2, by omega, by omega, hbounds.1, hbounds.2,
    (compensate_widthFails ..).mpr hfits.1, (compensate_depthFails ..).mpr hfits.2⟩

/-! ## The entries of an expansion (R74, R76) -/

/-- An expansion has one entry for each piece it keeps. -/
theorem pieceEntries_length (r : PlaceReq) (t : TemplateRec) (slot : Nat) (method : Option PierceMethod) (i : Nat)
    (start : Point) (ps : List Piece) : (pieceEntries r t slot method i start ps).length = ps.length := by
  induction ps generalizing i start with
  | nil => rfl
  | cons p ps ih => simp [pieceEntries, ih]

/-- Every entry of an expansion has a shape. -/
theorem pieceEntries_shaped (r : PlaceReq) (t : TemplateRec) (slot : Nat) (method : Option PierceMethod) (i : Nat)
    (start : Point) (ps : List Piece) : ∀ e ∈ pieceEntries r t slot method i start ps, ∃ sh, e.shape = some sh := by
  induction ps generalizing i start with
  | nil => exact fun _ h => nomatch h
  | cons p ps ih =>
    intro e he
    rcases List.mem_cons.mp he with rfl | he
    · exact ⟨_, rfl⟩
    · exact ih _ _ e he

/-- The TRAVERSE is always kept (R74). -/
theorem placedPieces_ne_nil (t : TemplateRec) (c : Compensation) (centre : Point) (turns : Nat) :
    placedPieces t c centre turns ≠ [] := by
  unfold placedPieces
  dsimp only
  split <;> simp [ccwPieces]

section
variable {s : State} {r : PlaceReq} {p : TemplateRec} {c : Compensation} {es : List QueueEntry}

theorem expand_shaped (h : expand s r p s.wear.kerf = (c, es)) : ∀ e ∈ es, ∃ sh, e.shape = some sh := by
  obtain ⟨-, rfl⟩ := Prod.mk.inj h
  exact pieceEntries_shaped _ _ _ _ _ _ _

theorem expand_pos (h : expand s r p s.wear.kerf = (c, es)) : 0 < es.length := by
  obtain ⟨-, rfl⟩ := Prod.mk.inj h
  rw [pieceEntries_length]
  exact List.length_pos_iff.mpr (placedPieces_ne_nil _ _ _ _)

/-! ## The checks of a Place, in the order of R65 -/

/-- The bed limits of one axis as R77 states them: an end point, and a corner's whole extent. -/
theorem withinBed_iff {lo hi : Int} {extent : Shape → Int × Int} {along : Point → Int}
    (h : ∀ e ∈ es, ∃ sh, e.shape = some sh) :
    (∀ e ∈ es, ∀ sh, e.shape = some sh →
      lo ≤ (if sh.arc.isSome then (extent sh).1 else along sh.stop)
      ∧ (if sh.arc.isSome then (extent sh).2 else along sh.stop) ≤ hi)
    ↔ withinBed lo hi extent along es = true := by
  simp only [withinBed, List.all_eq_true, Bool.and_eq_true, decide_eq_true_eq]
  refine forall₂_congr fun e he => ?_
  obtain ⟨sh, hsh⟩ := h e he
  simp only [bedExtent, hsh, Option.some.injEq, forall_eq']
  split <;> rfl

/-- The checks from the quarter turns on, for an expansion of the Place itself. -/
theorem placeRules_agree (h : expand s r p s.wear.kerf = (c, es)) :
    ChecksAgree (placeRules s r c es) (placeChecks s r c es) := by
  have hshaped := expand_shaped h
  obtain ⟨rfl, -⟩ := Prod.mk.inj h
  unfold placeRules placeChecks
  exact .cons decide_eq_true_iff.symm
    (.cons (by rw [Bool.not_eq_true', compensate_widthFails])
    (.cons (by rw [Bool.not_eq_true', compensate_depthFails])
    (.cons (withinBed_iff hshaped) (.cons (withinBed_iff hshaped) checksAgree_nil))))

/-- The material check passes on a slot that holds a record (R66). -/
theorem slotCheck_of_material {slot : Nat} (h : s.material slot ≠ none) : slotCheck s slot = none := by
  simp [slotCheck, Option.isSome_iff_ne_none, h]

/-- The free-slot check fails when the entries of an expansion do not all fit the queue (R34, R78). -/
theorem freeCheck_of_full {n : Nat} (hn : 0 < n) (h : 256 < s.queue.entries.length + n) :
    freeCheck s n = some (.queueFull, n) := by
  have hfree : ¬ n ≤ s.free := by unfold State.free; omega
  simp [freeCheck, hfree]

/-- The sequence number is the one expected, and the definitions a Place names are there: its template, the material it
resolves to and the Nozzle record (R65 to R67). -/
structure PlaceFound (s : State) (r : PlaceReq) (p : TemplateRec) : Prop where
  seq : r.seq = s.queue.expected
  template : s.template r.template = some p
  material : s.material (r.slotOverride.getD p.material) ≠ none
  nozzle : s.tables.nozzle ≠ none

/-- With its definitions found, a Place is refused by the first failing check of its expansion. -/
theorem PlaceFound.outcome_of_fault (f : PlaceFound s r p) (h : expand s r p s.wear.kerf = (c, es)) {n : Nat}
    (hn : firstFault (placeChecks s r c es) = some n) : placeOutcome s r = .error (.range, n) := by
  simp [placeOutcome, sequenceCheck, f.seq, f.template, placeSlot, slotCheck_of_material f.material, f.nozzle, h, hn]

/-- With its expansion checked as well, the free slots decide. -/
theorem PlaceFound.outcome_of_fits (f : PlaceFound s r p) (h : expand s r p s.wear.kerf = (c, es))
    (hall : firstFault (placeChecks s r c es) = none) :
    placeOutcome s r = (freeCheck s es.length).elim (.ok (c, es)) .error := by
  cases hfree : freeCheck s es.length <;>
    simp [placeOutcome, sequenceCheck, f.seq, f.template, placeSlot, slotCheck_of_material f.material, f.nozzle, h, hall,
      hfree]

end

/-- A Place whose ordered checks give a refusal is answered with it, and nothing changes (R4). -/
theorem exec_place_refused {tag : Byte} {r : PlaceReq} {s : State} {code : ResultCode} {detail : Nat}
    (hroom : s.hasRoom = true) (ht : queueTaken s.job.state = true) (h : placeOutcome s r = .error (code, detail)) :
    ∃ t, exec (.place tag r) s = .next t ∧ Refused s t tag 0x06 code (some detail) :=
  ⟨_, rfl, refused_of_refuse hroom tag 0x06 code (some detail) (answerPlace r) (by simp [answerPlace, ht, h])⟩

/-- Settles O30: each check is the first that fails when those before it pass. -/
theorem placeRefusedInOrder : Obligations.PlaceRefusedInOrder := by
  intro tag r s hroom hst
  have ht := queueTaken_of hst
  refine ⟨fun hseq => ?_, fun hseq htemplate => ?_, fun p hseq htemplate =>
    ⟨fun hmaterial => ?_, fun hmaterial => ⟨fun hnozzle => ?_, fun hnozzle c es he =>
      ⟨fun n hn => ?_, fun hall hfull => ?_⟩⟩⟩⟩ <;>
    refine exec_place_refused hroom ht ?_
  · simp [placeOutcome, sequenceCheck, hseq]
  · simp [placeOutcome, sequenceCheck, hseq, htemplate]
  · simp [placeOutcome, sequenceCheck, hseq, htemplate, slotCheck, placeSlot, hmaterial]
  · simp [placeOutcome, sequenceCheck, hseq, htemplate, placeSlot, slotCheck_of_material hmaterial, hnozzle]
  · exact PlaceFound.outcome_of_fault ⟨hseq, htemplate, hmaterial, hnozzle⟩ he ((placeRules_agree he).1 n hn)
  · rw [PlaceFound.outcome_of_fits ⟨hseq, htemplate, hmaterial, hnozzle⟩ he ((placeRules_agree he).2 hall),
      freeCheck_of_full (expand_pos he) hfull]
    rfl

end Sys2Proof.Machine
end

section
/-! PROOFS. The axes in IDLE: the Z confirmation (O49, R107), and the interpolation period of a head at rest (O51, R103,
R104, R112, R113) with the fault that freezes the set-points (R7, R111). -/

namespace Sys2Proof.Machine

open Sys2Proof

/-! ## The end of a command -/

/-- The end of a command changes the lamps and the link alone (R163, R176). -/
theorem wrapUp_eq (v : State) : wrapUp v = { v with zone := withLampsOf (wrapUp v) v, link := (wrapUp v).link } := by
  have hzone : (wrapUp v).zone = withLampsOf (wrapUp v) v := lampDerive_zone v
  obtain ⟨job, queue, plan, axis, jet, pump, -, wear, lines, config, tables, free, pending, -⟩ := lampDerive_keeps v
  rw [← hzone]
  unfold wrapUp kick State.setLink
  rw [State.mk.injEq]
  exact ⟨job rfl, config, tables, queue rfl, plan rfl, axis rfl, jet rfl, pump rfl, rfl, wear rfl, rfl, lines rfl, free,
    pending⟩

/-- The whole state that a command leaves which has come to `v` before the lamps are derived. -/
theorem exec_wrapUp_eq {i : Instr} {bs : List Block} {s v : State} (h : exec i s = .next (wrapUp v))
    (k : Keeps bs s v) : ∃ t posted, exec i s = .next t ∧ t.link = linkAfter s.link posted none
      ∧ t = { v with zone := withLampsOf t v, link := t.link } := by
  obtain ⟨l, hl⟩ := k.posts
  obtain ⟨-, m, hlink, -⟩ := wrapUp_ends (show Posts s v l from hl)
  exact ⟨_, _, h, hlink, wrapUp_eq v⟩

/-! ## The Z-reached input (R107) -/

/-- The confirmation follows the input; its timer starts in full in every state but UNCONFIGURED and TRIP. -/
theorem zReach_axis {s : State} (z : Option ZPos) (h : zTimerRuns s = true) :
    (zReach z s).axis =
      if z = some s.axis.zCmd ∧ s.axis.zConfirmed = false then { s.axis with zConfirmed := true, zTimer := none }
      else if z ≠ some s.axis.zCmd ∧ s.axis.zConfirmed = true then
        { s.axis with zConfirmed := false, zTimer := some s.cfg.zTimeout }
      else s.axis := by
  have hfull : zTimerFull (s.setLines { s.lines with zReached := z }) = some s.cfg.zTimeout := if_pos h
  by_cases hz : z = some s.axis.zCmd <;> cases hc : s.axis.zConfirmed <;> simp [zReach, hz, hc, hfull]

theorem zReach_eq (z : Option ZPos) (s : State) :
    zReach z s = { s with lines := { s.lines with zReached := z }, axis := (zReach z s).axis } := by
  unfold zReach
  dsimp only
  repeat' split
  all_goals rfl

/-- Settles O49: with the jet CLOSED and no reference run nothing waits for the head height, so the event is the change
of the confirmation and the lamps. -/
theorem zConfirmationFollowsTheInput : Obligations.ZConfirmationFollowsTheInput := by
  intro z s hidle hjet hhoming
  have hruns : zTimerRuns s = true := by simp [zTimerRuns, hidle]
  have haxis := zReach_axis z hruns
  have heq := zReach_eq z s
  have hseek : homingSeek (zReach z s) = zReach z s := by
    have hnone : (zReach z s).axis.homing = none := by
      rw [haxis]
      split_ifs <;> exact hhoming
    simp [homingSeek, hnone]
  have hadvance : seqAdvance (zReach z s) = zReach z s := by
    simp [seqAdvance, (zReach_keeps z s).jet rfl, hjet]
  have hsettle : settle (zReach z s) = zReach z s :=
    settle_at_rest (.inl ((congrArg Job.state ((zReach_keeps z s).job rfl)).trans hidle))
  have hexec : exec (.zReachedChange z) s = .next (wrapUp (zReach z s)) := by
    change Host.Outcome.next (wrapUp (settle (seqAdvance (homingSeek (zReach z s))))) = _
    rw [hseek, hadvance, hsettle]
  obtain ⟨t, posted, ht, hlink, hends⟩ := exec_wrapUp_eq hexec (zReach_keeps z s)
  refine ⟨t, posted, ht, hlink, hends.trans ?_⟩
  rw [← haxis, heq]
  rfl

/-! ## A fault that freezes the set-points (R7, R111) -/

theorem discardHold_job (s : State) : (discardHold s).job = { s.job with hold := none, deferred := false } := by
  unfold discardHold clearHold
  cases h : s.job.hold
  · simp [← h]
  · rfl

/-- Neither freezing kind stops the pump. -/
theorem FaultKind.stopsPump_of_freezes {k : FaultKind} (hk : k.freezes = true) : k.stopsPump = false := by
  cases k <;> simp_all [FaultKind.freezes, FaultKind.stopsPump]

/-- FAULT entered with the set-points frozen: the job as R7 and R8 give it, and of the axes no more than the motion and
the head height changed (R108, R111). -/
theorem enterFault_freezing {k : FaultKind} (detail : Nat) (s : State) (hk : k.freezes = true) :
    (enterFault k detail s).job = {
        state := .fault, sub := none, hold := none, deferred := false
        fault := { kind := some k, detail := detail, secondary := 0 }, residency := some 2000
        override := s.job.override, referenced := false }
    ∧ (enterFault k detail s).axis = { s.axis with
        frozen := true, speed := 0, stopRun := none, homing := none, pathPos := 0
        zCmd := .clear, zConfirmed := (enterFault k detail s).axis.zConfirmed
        zTimer := (enterFault k detail s).axis.zTimer } := by
  unfold enterFault
  extract_lets s1 s2 s3 s4 _ s5
  have h2 : s2 = freeze s1 := if_pos hk
  have h4 : s4 = orderStandby s3 := if_neg (by simp [FaultKind.stopsPump_of_freezes hk])
  have hjob1 : s1.job = { s.job with state := .fault, sub := none, hold := none, deferred := false } := by
    rw [(closeCommand_keeps _).job rfl, discardHold_job, setState_job]
  have haxis1 : s1.axis = s.axis := by
    rw [(closeCommand_keeps _).axis rfl, (discardHold_keeps _).axis rfl, (setState_keeps ..).axis rfl]
  have hjob4 : s4.job = { s1.job with referenced := false } := by
    rw [h4, (orderStandby_keeps _).job rfl, (clearJetRecords_keeps _).job rfl, (flush_keeps _).job rfl, h2]
    rfl
  have haxis : (setFault { kind := some k, detail := detail, secondary := 0 } s5).axis =
      { s.axis with frozen := true, speed := 0, stopRun := none, homing := none, pathPos := 0 } := by
    rw [(setFault_keeps ..).axis rfl, (setJob_keeps ..).axis rfl, h4, (orderStandby_keeps _).axis rfl,
      (clearJetRecords_keeps _).axis rfl, h2, ← haxis1]
    rfl
  have hrest : (setFault { kind := some k, detail := detail, secondary := 0 } s5).atRest = true := by
    simp [State.atRest, haxis]
  refine ⟨?_, ?_⟩
  · rw [(clearAtRest_keeps _).job rfl, setFault_job]
    change ({ s4.job with residency := some 2000, fault := _ } : Job) = _
    rw [hjob4, hjob1]
  · rw [clearAtRest, if_pos hrest]
    exact (zCommand_axis ..).trans (by rw [haxis])

/-! ## Following error (R112, R113) -/

/-- The excursion count of a period (R112). -/
def excursionsAfter (c : ConfigRec) (a : Axis) : Nat :=
  if c.warnLimit < errorOf a.setPoint.x a.actual.x ∨ c.warnLimit < errorOf a.setPoint.y a.actual.y then
    min 65535 (a.excursions + 1)
  else a.excursions

/-- The axes after the checks of a period, before what they raise (R112, R113). -/
def watchedAxis (c : ConfigRec) (a : Axis) : Axis :=
  { a with
    excursions := excursionsAfter c a
    threshold := a.threshold
      || decide ((c.warnLimit < errorOf a.setPoint.x a.actual.x ∨ c.warnLimit < errorOf a.setPoint.y a.actual.y)
          ∧ c.excursionThreshold ≤ excursionsAfter c a)
    beyondX := decide (c.faultLimit < errorOf a.setPoint.x a.actual.x)
    beyondY := decide (c.faultLimit < errorOf a.setPoint.y a.actual.y) }

/-- The threshold flag stands unless the count meets its threshold with the flag clear (R113). -/
theorem watchedAxis_of_threshold {c : ConfigRec} {a : Axis}
    (h : ¬ ((c.warnLimit < errorOf a.setPoint.x a.actual.x ∨ c.warnLimit < errorOf a.setPoint.y a.actual.y)
        ∧ c.excursionThreshold ≤ excursionsAfter c a ∧ a.threshold = false)) :
    watchedAxis c a = { a with
      excursions := excursionsAfter c a
      beyondX := decide (c.faultLimit < errorOf a.setPoint.x a.actual.x)
      beyondY := decide (c.faultLimit < errorOf a.setPoint.y a.actual.y) } := by
  unfold watchedAxis
  cases ht : a.threshold
  · rw [decide_eq_false fun ⟨he, hn⟩ => h ⟨he, hn, ht⟩]
    rfl
  · rfl

/-- The checks of a period under the Configure record `c`: the axes watched, and FOLLOWING for a check met. -/
theorem followCheck_eq {s : State} {c : ConfigRec} (hc : s.config = some c) :
    followCheck s = (followDetail c s.axis (excursionsAfter c s.axis)).elim (s.setAxis (watchedAxis c s.axis))
      (fun d => raiseFault .following d (s.setAxis (watchedAxis c s.axis))) := by
  have hcfg : s.cfg = c := by simp [State.cfg, hc]
  have herr : followError = errorOf := rfl
  have hcount : (if (decide (c.warnLimit < errorOf s.axis.setPoint.x s.axis.actual.x)
        || decide (c.warnLimit < errorOf s.axis.setPoint.y s.axis.actual.y)) = true
      then satAdd 65535 s.axis.excursions 1 else s.axis.excursions) = excursionsAfter c s.axis := by
    simp [excursionsAfter, satAdd]
  simp only [followCheck, State.configured, hc, Option.isSome_some, if_true, hcfg, herr, hcount, watchedAxis,
    Bool.decide_and, Bool.decide_or]
  cases followDetail c s.axis (excursionsAfter c s.axis) <;> rfl

theorem followCheck_quiet {s : State} {c : ConfigRec} (hc : s.config = some c)
    (hd : followDetail c s.axis (excursionsAfter c s.axis) = none) :
    followCheck s = s.setAxis (watchedAxis c s.axis) := by
  simp only [followCheck_eq hc, hd, Option.elim_none]

/-- In IDLE a check met enters FAULT (R5, R113). -/
theorem followCheck_faults {s : State} {c : ConfigRec} {d : Nat} (hidle : s.job.state = .idle) (hc : s.config = some c)
    (hd : followDetail c s.axis (excursionsAfter c s.axis) = some d) :
    followCheck s = enterFault .following d (s.setAxis (watchedAxis c s.axis)) := by
  simp only [followCheck_eq hc, hd, Option.elim_some, raiseFault, State.setAxis_job, hidle]

/-- The checks of a period in their order (R113). -/
theorem followDetail_eq (c : ConfigRec) (a : Axis) (n : Nat) :
    followDetail c a n =
      if c.faultLimit < errorOf a.setPoint.x a.actual.x ∧ a.beyondX = false then some 1
      else if c.faultLimit < errorOf a.setPoint.y a.actual.y ∧ a.beyondY = false then some 2
      else if (c.warnLimit < errorOf a.setPoint.x a.actual.x ∨ c.warnLimit < errorOf a.setPoint.y a.actual.y)
          ∧ c.excursionThreshold ≤ n ∧ a.threshold = false then
        some (if c.warnLimit < errorOf a.setPoint.x a.actual.x then 17 else 18)
      else none := by
  have herr : followError = errorOf := rfl
  unfold followDetail
  rw [herr]
  simp [and_assoc]

/-! ## A period at rest (R103, R104) -/

/-- Outside RUN and HOLD no close point is kept (R99). -/
theorem closeWatch_idle_or_fault {s : State} (h : s.job.state = .idle ∨ s.job.state = .fault) :
    closeWatch s = s.setPlan { s.plan with closePoint := none } := by
  rcases h with h | h <;> simp [closeWatch, h]

/-- Nothing arrives at a stop outside RUN and HOLD (R100). -/
theorem arrive_idle_or_fault {s : State} (h : s.job.state = .idle ∨ s.job.state = .fault) : arrive s = s := by
  rcases h with h | h <;> simp [arrive, h]

/-- A head at rest in IDLE takes no step (R104). -/
theorem motion_resting {s : State} (hidle : s.job.state = .idle) (hrest : Resting s) : motion s = s := by
  obtain ⟨hspeed, hstop, hhoming⟩ := hrest
  have hsame : s.setAxis { s.axis with speed := 0 } = s := by
    rw [← hspeed]
    rfl
  unfold motion
  split
  · exact hsame
  · rw [hstop, hhoming, hidle]
    exact hsame

/-- A period at rest is the sample and the checks of the following error; the close point goes. -/
theorem period_resting {s v : State} {fb : Point} {homeX homeY : Bool} (hidle : s.job.state = .idle)
    (hrest : Resting s) (hv : followCheck (sample fb homeX homeY s) = v)
    (hstate : v.job.state = .idle ∨ v.job.state = .fault) :
    period fb homeX homeY s = v.setPlan { v.plan with closePoint := none } := by
  have harrive : arrive (v.setPlan { v.plan with closePoint := none }) = v.setPlan { v.plan with closePoint := none } :=
    arrive_idle_or_fault hstate
  unfold period
  rw [motion_resting (s := sample fb homeX homeY s) hidle hrest, hv, closeWatch_idle_or_fault hstate, harrive]
  rcases hstate with h | h
  · exact settle_at_rest (.inl h)
  · exact settle_fault h

/-- Settles O51: the checks of R113 in their order give the detail; without one the period is the sample and the watched
axes, with one it enters FAULT with the set-points frozen. -/
theorem periodAtRestWatchesTheAxes : Obligations.PeriodAtRestWatchesTheAxes := by
  intro fbX fbY homeX homeY s c hidle hc _ hrest ax ay ex ey excursion count limitX limitY threshold lines
  have hdetail := followDetail_eq c (sample ⟨fbX, fbY⟩ homeX homeY s).axis count
  have hkeeps := period_keeps ⟨fbX, fbY⟩ homeX homeY s
  refine ⟨fun hx hy ht => ?_, fun d hd => ?_⟩
  · have hnone := hdetail.trans ((if_neg hx).trans ((if_neg hy).trans (if_neg ht)))
    have haxis := watchedAxis_of_threshold (a := (sample ⟨fbX, fbY⟩ homeX homeY s).axis) ht
    have hquiet := followCheck_quiet (s := sample ⟨fbX, fbY⟩ homeX homeY s) hc hnone
    have hperiod := period_resting hidle hrest hquiet (.inl hidle)
    obtain ⟨t, posted, hexec, hlink, hends⟩ := exec_wrapUp_eq (i := .interpolationPeriod fbX fbY homeX homeY) rfl hkeeps
    rw [hperiod, haxis] at hends
    refine ⟨t, posted, hexec, hlink, hends.trans ?_⟩
    rw [congrArg State.plan hends]
    rfl
  · have hsome : followDetail c (sample ⟨fbX, fbY⟩ homeX homeY s).axis count = some d := by
      obtain ⟨hx, rfl⟩ | ⟨hx, hy, rfl⟩ | ⟨hx, hy, ht, rfl⟩ := hd
      · exact hdetail.trans (if_pos hx)
      · exact hdetail.trans ((if_neg hx).trans (if_pos hy))
      · exact hdetail.trans ((if_neg hx).trans ((if_neg hy).trans (if_pos ht)))
    have hfaults := followCheck_faults (s := sample ⟨fbX, fbY⟩ homeX homeY s) hidle hc hsome
    have hperiod := period_resting hidle hrest hfaults (.inr (enterFault_outcome ..).1)
    obtain ⟨t, posted, hexec, hlink, hends⟩ := exec_wrapUp (i := .interpolationPeriod fbX fbY homeX homeY) rfl hkeeps
    rw [hperiod] at hends
    obtain ⟨hjob, hfrozen⟩ := enterFault_freezing (k := .following) d
      ((sample ⟨fbX, fbY⟩ homeX homeY s).setAxis (watchedAxis c (sample ⟨fbX, fbY⟩ homeX homeY s).axis)) rfl
    obtain ⟨-, -, -, hqueue⟩ := enterFault_outcome .following d
      ((sample ⟨fbX, fbY⟩ homeX homeY s).setAxis (watchedAxis c (sample ⟨fbX, fbY⟩ homeX homeY s).axis))
    have haxis := hends.axis.trans hfrozen
    exact ⟨t, posted, hexec, hlink, hends.job.trans hjob, congrArg Axis.frozen haxis,
      (congrArg Axis.setPoint haxis :), (congrArg Axis.actual haxis :), (congrArg Axis.excursions haxis :),
      hends.lines.trans ((enterFault_keeps ..).lines rfl), (congrArg SegQueue.entries hends.queue).trans hqueue⟩

end Sys2Proof.Machine
end

section
/-! PROOFS. O54: the valve-closed switch in IDLE and with the jet CLOSED (R129, R131), and what the valve timer raises
when it runs out (R132), with the TRIP it enters (R9). -/

namespace Sys2Proof.Machine

open Sys2Proof

/-! ## The pump told of the valve (R121, R149) -/

/-- Told that the valve is open, the pump alone changes, and of it neither the pump state nor the code. -/
theorem pumpValveOpen_eq (s : State) :
    ∃ p, pumpValveOpen s = s.setPump p ∧ p.valveOpen = true ∧ p.state = s.pump.state ∧ p.code = s.pump.code :=
  ⟨(pumpValveOpen s).pump, rfl, rfl, rfl, rfl⟩

/-- Told that the valve is closed, the pump alone changes, and of it neither the pump state nor the code. -/
theorem pumpValveClosed_eq (s : State) :
    ∃ p, pumpValveClosed s = s.setPump p ∧ p.valveOpen = false ∧ p.state = s.pump.state ∧ p.code = s.pump.code :=
  ⟨(pumpValveClosed s).pump, rfl, rfl, rfl, rfl⟩

/-! ## The valve-closed switch (R129, R131) -/

/-- The switch that reports the jet CLOSED, the Wear Counter told: the line, the jet and the timing flag change. -/
theorem wearTold_shutBySwitch (s : State) :
    wearTold false (shutBySwitch s) = { s with
      lines := { s.lines with valveClosed := true }
      jet := { s.jet with state := .closed, valveTimer := none }
      wear := { s.wear with timing := false } } := rfl

/-- In IDLE, with no sequence waiting, the switch closes the jet and tells the neighbours; no recovery ends there, and
nothing waited for the jet to close. -/
theorem switchActive_idle {s : State} (hclosing : s.jet.state = .closing) (hseq : s.jet.seq = none)
    (hidle : s.job.state = .idle) :
    switchActive s = lampDerive (pumpValveClosed (wearTold false (shutBySwitch s))) := by
  have hrecovery : recoveryAtSwitch (shutBySwitch s) = shutBySwitch s := if_neg (fun g => by
    have hrun : s.job.state = .run := g.1
    simp [hidle] at hrun)
  have hprepare : enterPreparing (pumpValveClosed (wearTold false (shutBySwitch s)))
      = pumpValveClosed (wearTold false (shutBySwitch s)) := by
    have hnone : (pumpValveClosed (wearTold false (shutBySwitch s))).jet.seq = none := hseq
    simp [enterPreparing, hnone]
  calc switchActive s
      = done (enterPreparing (pumpValveClosed (wearTold false (recoveryAtSwitch (shutBySwitch s))))) := if_pos hclosing
    _ = done (pumpValveClosed (wearTold false (shutBySwitch s))) := by rw [hrecovery, hprepare]
    _ = lampDerive (pumpValveClosed (wearTold false (shutBySwitch s))) :=
      congrArg lampDerive (settle_at_rest (.inl hidle))

/-- The switch that closes the jet in IDLE, as a command: besides the jet and the neighbours only the lamps follow. -/
theorem switch_closes_idle {s : State} (hclosing : s.jet.state = .closing) (hseq : s.jet.seq = none)
    (hidle : s.job.state = .idle) :
    ∃ t posted, exec .valveSwitchActive s = .next t ∧ t.link = linkAfter s.link posted none
      ∧ t.pump.valveOpen = false ∧ t.pump.state = s.pump.state ∧ t.pump.code = s.pump.code
      ∧ t = { s with
          lines := { s.lines with valveClosed := true }
          jet := { s.jet with state := .closed, valveTimer := none }
          wear := { s.wear with timing := false }
          pump := t.pump, zone := withLampsOf t s, link := t.link } := by
  obtain ⟨p, hp, hshut, hstate, hcode⟩ := pumpValveClosed_eq (wearTold false (shutBySwitch s))
  have hexec : exec .valveSwitchActive s = .next (wrapUp ((wearTold false (shutBySwitch s)).setPump p)) := by
    rw [← hp]
    exact congrArg (fun u => Host.Outcome.next (kick u)) (switchActive_idle hclosing hseq hidle)
  have kv : Keeps [.pump, .wear, .jet, .lines] s ((wearTold false (shutBySwitch s)).setPump p) :=
    (setPump_keeps ..).comp rfl ((wearTold_keeps ..).comp rfl ((setJet_keeps ..).comp rfl
      ((setLines_keeps ..).comp rfl (Keeps.refl _ _))))
  obtain ⟨t, posted, ht, hlink, hends⟩ := exec_wrapUp_eq hexec kv
  obtain rfl : t.pump = p := congrArg State.pump hends
  rw [wearTold_shutBySwitch] at hends
  exact ⟨t, posted, ht, hlink, hshut, hstate, hcode, hends⟩

/-- The state in which the switch has reported, the jet CLOSED, that the valve has opened without a command. -/
def openedBySwitch (s : State) : State :=
  (s.setLines { s.lines with valveClosed := false }).setJet
    { s.jet with
      state := .closing
      valveTimer := if s.config.isSome then some (s.cfg.valveTimeout, s.job.state) else none }

/-- The valve taken to have opened, the Wear Counter told: the line, the jet and the timing flag change. -/
theorem wearTold_openedBySwitch (s : State) :
    wearTold true (openedBySwitch s) = { s with
      lines := { s.lines with valveClosed := false }
      jet := { s.jet with
        state := .closing
        valveTimer := if s.config.isSome then some (s.cfg.valveTimeout, s.job.state) else none }
      wear := { s.wear with timing := true } } := rfl

/-- With the jet CLOSED, an inactive switch begins a close and tells the neighbours. -/
theorem switchInactive_closed {s : State} (hclosed : s.jet.state = .closed) :
    switchInactive s = pumpValveOpen (wearTold true (openedBySwitch s)) := if_pos hclosed

/-- The switch that finds the jet CLOSED, as a command: nothing is posted. -/
theorem switch_opens_closed {s : State} (hclosed : s.jet.state = .closed) :
    ∃ t, exec .valveSwitchInactive s = .next t ∧ t.link = beginNext s.link
      ∧ t.pump.valveOpen = true ∧ t.pump.state = s.pump.state ∧ t.pump.code = s.pump.code
      ∧ t = { s with
          lines := { s.lines with valveClosed := false }
          jet := { s.jet with
            state := .closing
            valveTimer := if s.config.isSome then some (s.cfg.valveTimeout, s.job.state) else none }
          wear := { s.wear with timing := true }
          pump := t.pump, link := t.link } := by
  obtain ⟨p, hp, hopen, hstate, hcode⟩ := pumpValveOpen_eq (wearTold true (openedBySwitch s))
  have hexec : exec .valveSwitchInactive s = .next (kick ((wearTold true (openedBySwitch s)).setPump p)) := by
    rw [← hp]
    exact congrArg (fun u => Host.Outcome.next (kick u)) (switchInactive_closed hclosed)
  rw [wearTold_openedBySwitch] at hexec
  exact ⟨_, hexec, rfl, hopen, hstate, hcode, rfl⟩

/-! ## FAULT and TRIP, the jet CLOSING (R7, R9) -/

/-- A close command that finds the jet CLOSING leaves its valve timer (R131). -/
theorem closeCommand_valveTimer {s : State} (hclosing : s.jet.state = .closing) :
    (closeCommand s).jet.valveTimer = s.jet.valveTimer := by
  have hends : ∀ t : State, (endSequence t).jet.valveTimer = t.jet.valveTimer := by
    intro t
    unfold endSequence
    split <;> rfl
  simp only [closeCommand, hclosing, hends]
  rfl

/-- FAULT entered with the jet CLOSING leaves its valve timer (R7, R131). -/
theorem enterFault_valveTimer (k : FaultKind) (detail : Nat) {s : State} (hclosing : s.jet.state = .closing) :
    (enterFault k detail s).jet.valveTimer = s.jet.valveTimer := by
  unfold enterFault
  extract_lets s1 s2 s3 s4 s5
  have kdiscard : Keeps [.job] s (discardHold (setState .fault none s)) :=
    (discardHold_keeps _).comp rfl ((setState_keeps ..).comp rfl (Keeps.refl _ _))
  have hjet : (discardHold (setState .fault none s)).jet = s.jet := kdiscard.jet rfl
  have htimer1 : s1.jet.valveTimer = s.jet.valveTimer := by
    unfold s1
    rw [closeCommand_valveTimer (by rw [hjet, hclosing]), hjet]
  have hjet2 : s2.jet = s1.jet := by
    unfold s2
    split
    · rfl
    · exact (orderStop_keeps ..).jet rfl
  have htimer3 : s3.jet.valveTimer = s2.jet.valveTimer := rfl
  have hjet4 : s4.jet = s3.jet := by
    unfold s4
    split
    · exact (levelRequest_keeps ..).jet rfl
    · exact (orderStandby_keeps _).jet rfl
  rw [(clearAtRest_keeps _).jet rfl, (setFault_keeps ..).jet rfl, (setJob_keeps ..).jet rfl, hjet4, htimer3, hjet2,
    htimer1]

theorem pumpStop_state (s : State) : (pumpStop s).pump.state = .off := by
  unfold pumpStop pumpPut
  dsimp only
  split <;> rfl

/-- TRIP entered: its state, its record and the pump stopped (R9, R153). -/
theorem enterTrip_outcome (k : FaultKind) (detail : Nat) (s : State) :
    (enterTrip k detail s).job.state = .trip ∧ (enterTrip k detail s).pump.state = .off
    ∧ (enterTrip k detail s).job.fault = { kind := some k, detail := detail, secondary := 0 } := by
  unfold enterTrip
  extract_lets s1 s2 s3 s4
  have hstate1 : s1.job.state = .trip := by
    rw [(closeCommand_keeps _).job rfl, discardHold_state, setState_job]
  have hstate3 : s3.job.state = .trip := by
    rw [(orderTrip_keeps _).job rfl, (clearJetRecords_keeps _).job rfl, (flush_keeps _).job rfl,
      (orderStop_keeps ..).job rfl, hstate1]
  rw [setFault_job, (setFault_keeps ..).pump rfl]
  exact ⟨hstate3, pumpStop_state s2, rfl⟩

theorem settle_trip {s : State} (h : s.job.state = .trip) : settle s = s := by
  unfold settle
  rw [h]
  exact ite_self _

/-! ## The valve timer runs out (R132) -/

/-- The valve timer has stopped. -/
def valveTimerStopped (s : State) : State := s.setJet { s.jet with valveTimer := none }

/-- With the jet CLOSING, the expiry leaves what the condition of R132 leaves, once nothing there waits to settle. -/
theorem exec_valve_timeout {s v : State} {ms : Nat} {st : CtrlState} (hclosing : s.jet.state = .closing)
    (htimer : s.jet.valveTimer = some (ms, st)) (hv : valveCondition st (valveTimerStopped s) = v)
    (hsettle : settle v = v) : ∃ t, exec .valveTimerExpiry s = .next t ∧ EndsAs v t := by
  have htimedOut : valveTimedOut s = lampDerive v := by
    unfold valveTimedOut
    rw [hclosing, htimer]
    change lampDerive (settle (valveCondition st (valveTimerStopped s))) = _
    rw [hv, hsettle]
  obtain ⟨hends, -⟩ := wrapUp_ends (posts_nil (s := v) rfl)
  exact ⟨wrapUp v, congrArg (fun u => Host.Outcome.next (kick u)) htimedOut, hends⟩

/-- In IDLE it is the VALVE fault, with the number of the state in which the close was commanded. -/
theorem valve_timeout_faults {s : State} {ms : Nat} {st : CtrlState} (hclosing : s.jet.state = .closing)
    (htimer : s.jet.valveTimer = some (ms, st)) (hidle : s.job.state = .idle) :
    ∃ t, exec .valveTimerExpiry s = .next t ∧ t.job.state = .fault ∧ t.jet.valveTimer = none
      ∧ t.job.fault = { kind := some .valve, detail := st.number, secondary := 0 } ∧ t.job.residency = some 2000 := by
  have hcondition : valveCondition st (valveTimerStopped s) = enterFault .valve st.number (valveTimerStopped s) := by
    simp [valveCondition, raiseFault, valveTimerStopped, hidle]
  obtain ⟨hstate, hresidency, hfault, -⟩ := enterFault_outcome .valve st.number (valveTimerStopped s)
  have hstopped := enterFault_valveTimer .valve st.number (s := valveTimerStopped s) hclosing
  obtain ⟨t, ht, hends⟩ := exec_valve_timeout hclosing htimer hcondition (settle_fault hstate)
  rw [← hends.job] at hstate hresidency hfault
  rw [← hends.jet] at hstopped
  exact ⟨t, ht, hstate, hstopped, hfault, hresidency⟩

/-- Where the condition is a trip, TRIP is entered with its record and the pump stopped. -/
theorem valve_timeout_trips {s : State} {ms detail : Nat} {st : CtrlState} (hclosing : s.jet.state = .closing)
    (htimer : s.jet.valveTimer = some (ms, st))
    (hcondition : valveCondition st (valveTimerStopped s) = raiseTrip .valveTrip detail (valveTimerStopped s))
    (hstate : s.job.state ≠ .trip) :
    ∃ t, exec .valveTimerExpiry s = .next t ∧ t.job.state = .trip ∧ t.pump.state = .off
      ∧ t.job.fault = { kind := some .valveTrip, detail := detail, secondary := 0 } := by
  obtain ⟨htrip, hpump, hfault⟩ := enterTrip_outcome .valveTrip detail (valveTimerStopped s)
  obtain ⟨t, ht, hends⟩ := exec_valve_timeout hclosing htimer (hcondition.trans (if_neg hstate)) (settle_trip htrip)
  rw [← hends.job] at htrip hfault
  rw [← hends.pump] at hpump
  exact ⟨t, ht, htrip, hpump, hfault⟩

/-! ## O54 -/

/-- Settles O54, by the switch that closes the jet in IDLE, the switch that finds it open, and the condition that the
timer raises in each state. -/
theorem valveSwitchAndTimer : Obligations.ValveSwitchAndTimer := by
  intro s
  refine ⟨switch_closes_idle, switch_opens_closed, fun ms st hclosing htimer =>
    ⟨valve_timeout_faults hclosing htimer, fun haborting => ?_, fun k hfault hkind => ?_⟩⟩
  · refine valve_timeout_trips hclosing htimer ?_ (by simp [haborting])
    simp [valveCondition, valveTimerStopped, haborting]
  · refine valve_timeout_trips hclosing htimer ?_ (by simp [hfault])
    simp [valveCondition, valveTimerStopped, hfault, faultNumber, hkind]

end Sys2Proof.Machine
end

section
/-! PROOFS. Rules of the Pump Manager's operations, said once for each: the values a change of level, a ramp, a start
and a stop leave (R143 to R147, R153), and the statements' words for codes and readings. -/

namespace Sys2Proof.Machine

open Sys2Proof

/-! ## Codes and readings (R143, R144, R147) -/

theorem levelCode_eq (c : ConfigRec) (r : LevelReq) : levelCode c r = requestCode c r := by
  unfold levelCode requestCode
  cases r.level <;> rfl

theorem withinTolerance_iff (tolerance code reading : Nat) :
    withinTolerance tolerance code reading = true ↔ WithinTolerance tolerance code reading := by
  unfold withinTolerance WithinTolerance demand
  rw [Bool.and_eq_true, decide_eq_true_iff, decide_eq_true_iff]
  omega

theorem readingFits_iff (s : State) (code : Nat) : readingFits s code = true ↔ ReadingWithin s code :=
  withinTolerance_iff ..

theorem codeFor_le (c : ConfigRec) (pressure : Nat) : codeFor c pressure ≤ ceilingCode c := Nat.min_le_right ..

/-- No request resolves to a code above the ceiling code (R143). -/
theorem requestCode_le (c : ConfigRec) (r : LevelReq) : requestCode c r ≤ ceilingCode c := by
  unfold requestCode
  cases r.level
  case off => exact Nat.zero_le _
  all_goals exact codeFor_le ..

/-! ## The pump's values after each operation -/

@[simp] theorem pumpPut_pump (p : Pump) (s : State) : (pumpPut p s).pump = p := by
  unfold pumpPut
  dsimp only
  split <;> rfl

@[simp] theorem pumpPut_cfg (p : Pump) (s : State) : (pumpPut p s).cfg = s.cfg := by
  simp [State.cfg, (pumpPut_keeps p s).config]

@[simp] theorem pumpPut_lines (p : Pump) (s : State) : (pumpPut p s).lines = s.lines := (pumpPut_keeps p s).lines rfl

/-- Both ladder timers stop while the pump is not STEADY (R150, R151). -/
theorem ladder_pump_of_not_steady {s : State} (h : s.pump.state ≠ .steady) :
    (ladder s).pump = { s.pump with standbyTimer := none, offTimer := none } := by
  simp [ladder, ladderTimer, standbyRuns, offRuns, h]

/-- A stopped pump: OFF at code 0, nothing latched and no timer running (R145, R153). -/
def stoppedPump (p : Pump) : Pump :=
  { p with state := .off, target := ⟨.off, 0⟩, current := .off, code := 0, rampFrom := 0, latch := none
           startTimer := none, rampTimer := none, standbyTimer := none, offTimer := none, band := none }

theorem pumpStop_pump (s : State) : (pumpStop s).pump = stoppedPump s.pump := pumpPut_pump ..

/-- A pump of the values `p` that has begun to ramp toward `code` (R147). -/
def rampingPump (c : ConfigRec) (code : Nat) (p : Pump) : Pump :=
  { p with state := .ramping, rampFrom := p.code, code := code, startTimer := none, rampTimer := some c.rampTimeout
           standbyTimer := none, offTimer := none, band := none }

theorem startRamp_pump (code : Nat) (p : Pump) (s : State) :
    (startRamp code p s).pump = rampingPump s.cfg code p := by
  unfold startRamp
  rw [ladder_pump_of_not_steady (by simp)]
  simp [rampingPump]

/-- A reading within tolerance is none of what a ramp's start changes, but for the tolerance the pump's values hold. -/
theorem readingFits_startRamp {p : Pump} {s : State} (h : p.formerTolerance = s.pump.formerTolerance)
    (code code' : Nat) : readingFits (startRamp code p s) code' = readingFits s code' := by
  have k := startRamp_keeps code p s
  simp [readingFits, State.readingTolerance, State.cfg, startRamp_pump, rampingPump, k.config, k.lines rfl, h]

/-- The pump is STEADY at its target (R147). -/
theorem enterSteady_reads (s : State) :
    (enterSteady s).pump.state = .steady ∧ (enterSteady s).pump.current = s.pump.target.level
    ∧ (enterSteady s).pump.target = s.pump.target ∧ (enterSteady s).pump.code = s.pump.code
    ∧ (enterSteady s).pump.rampTimer = none := by
  simp [enterSteady, ladder]

/-- A ramp that the reading does not end at once goes on (R147). -/
theorem rampUnlatched_ramps {code : Nat} {p : Pump} {s : State} (hp : p.formerTolerance = s.pump.formerTolerance)
    (h : ¬ ReadingWithin s code) : rampUnlatched code p s = startRamp code p s := by
  rw [← readingFits_iff] at h
  simp [rampUnlatched, readingFits_startRamp hp, h]

theorem enterRamping_ramps {code : Nat} {p : Pump} {s : State} (hp : p.formerTolerance = s.pump.formerTolerance)
    (h : ¬ ReadingWithin s code) : enterRamping code p s = startRamp code p s := by
  rw [← readingFits_iff] at h
  simp [enterRamping, readingFits_startRamp hp, h]

/-- A pump of the values `p` that has been started toward `target` (R145, R146). -/
def startingPump (c : ConfigRec) (target : LevelReq) (p : Pump) : Pump :=
  { p with state := .starting, target := target, code := 0, startTimer := some c.startTimeout, rampTimer := none
           standbyTimer := none, offTimer := none, band := none }

/-- A start that the running input does not end at once (R145, R146). -/
theorem enterStarting_waits {target : LevelReq} {s : State} (h : s.lines.pumpRunning = false) :
    (enterStarting target s).pump = startingPump s.cfg target s.pump := by
  unfold enterStarting
  extract_lets p s1
  have hlines : s1.lines = s.lines := by
    unfold s1
    rw [(ladder_keeps _).lines rfl, pumpPut_lines]
  rw [if_neg (by simp [hlines, h])]
  unfold s1
  rw [ladder_pump_of_not_steady (by simp)]
  simp [startingPump, p]

end Sys2Proof.Machine
end

section
/-! PROOFS. O7, the pump's demand code (R142, R143, R145): `PumpBounded` is what every operation keeps once a Configure
record is in force; a part without one keeps its pump stopped. -/

namespace Sys2Proof.Machine

open Sys2Proof

/-! ## What is kept -/

/-- A state in which no request other than OFF is taken (R145). -/
def Barred (s : State) : Prop := s.job.state = .unconfigured ∨ s.job.state = .trip

/-- A demand code that `c` allows: at most the ceiling code, and 0 in OFF and STARTING (R143). -/
structure CodeFits (c : ConfigRec) (p : Pump) : Prop where
  ceiling : p.code ≤ ceilingCode c
  stopped : p.state = .off ∨ p.state = .starting → p.code = 0

/-- With a Configure record in force: the demand code fits its limits, and the pump is OFF where requests are barred. -/
structure PumpBounded (s : State) : Prop where
  configured : s.config.isSome = true
  fits : CodeFits s.cfg s.pump
  barred : Barred s → s.pump.state = .off

/-- It is read from the limits, the pump state and code, and from whether the controller state bars requests. -/
theorem PumpBounded.of_reads {s t : State} (h : PumpBounded s) (hc : t.config = s.config)
    (hp : t.pump.state = s.pump.state) (hcode : t.pump.code = s.pump.code) (hj : Barred t → Barred s) :
    PumpBounded t := by
  obtain ⟨hconf, ⟨hceiling, hstopped⟩, hbarred⟩ := h
  have hcfg : t.cfg = s.cfg := by simp [State.cfg, hc]
  exact ⟨by rw [hc, hconf], ⟨by rw [hcode, hcfg]; exact hceiling, by rw [hp, hcode]; exact hstopped⟩,
    fun g => hp.trans (hbarred (hj g))⟩

/-- A step that leaves the pump, and bars no requests, keeps it. -/
theorem Keeps.bounded_of_job {bs : List Block} {s t : State} (k : Keeps bs s t) (hp : bs.contains .pump = false)
    (hj : Barred t → Barred s) (h : PumpBounded s) : PumpBounded t :=
  h.of_reads k.config (by rw [k.pump hp]) (by rw [k.pump hp]) hj

theorem Keeps.bounded {bs : List Block} {s t : State} (k : Keeps bs s t) (hp : bs.contains .pump = false)
    (hj : bs.contains .job = false) (h : PumpBounded s) : PumpBounded t :=
  k.bounded_of_job hp (by simp [Barred, k.job hj]) h

/-- A step of the pump alone keeps it that leaves a code that fits and, OFF where requests are barred, the pump OFF. -/
theorem Keeps.bounded_of_pump {s t : State} (k : Keeps [.pump] s t) (hc : s.config.isSome = true)
    (hf : CodeFits s.cfg t.pump) (hoff : Barred s → t.pump.state = .off) : PumpBounded t where
  configured := by rw [k.config, hc]
  fits := by simpa [State.cfg, k.config] using hf
  barred g := hoff (by simpa [Barred, k.job rfl] using g)

theorem PumpBounded.not_barred {s : State} (h : PumpBounded s) (hp : s.pump.state ≠ .off) : ¬ Barred s :=
  fun g => hp (h.barred g)

/-! ## The controller state and its records -/

theorem setState_bounded {st : CtrlState} {s : State} (sub : Option Substate) (hst : st ≠ .unconfigured ∧ st ≠ .trip)
    (h : PumpBounded s) : PumpBounded (setState st sub s) :=
  (setState_keeps st sub s).bounded_of_job rfl (by simp [Barred, setState_job, hst]) h

theorem setFault_bounded {s : State} (r : FaultRecord) (h : PumpBounded s) : PumpBounded (setFault r s) :=
  (setFault_keeps r s).bounded_of_job rfl (by simp [Barred, setFault_job]) h

theorem clearHold_bounded {s : State} (h : PumpBounded s) : PumpBounded (clearHold s) := by
  unfold clearHold
  split
  · exact h
  · exact h.of_reads rfl rfl rfl id

theorem discardHold_bounded {s : State} (h : PumpBounded s) : PumpBounded (discardHold s) :=
  (clearHold_bounded h).of_reads rfl rfl rfl id

theorem setHold_bounded {s : State} (r : HoldRecord) (h : PumpBounded s) : PumpBounded (setHold r s) := by
  unfold setHold
  split
  · exact h
  · exact h.of_reads rfl rfl rfl id

theorem heldWhenStill_bounded {s : State} (h : PumpBounded s) : PumpBounded (heldWhenStill s) := by
  unfold heldWhenStill
  split
  · exact setState_bounded _ (by decide) h
  · exact h

/-! ## The pump's own operations -/

/-- A ramp toward a code up to the ceiling code leaves one that fits, however it ends. -/
theorem codeFits_of_running {c : ConfigRec} {p : Pump} (hcode : p.code ≤ ceilingCode c)
    (hrun : p.state = .ramping ∨ p.state = .steady) : CodeFits c p :=
  ⟨hcode, fun g => by rcases hrun with h | h <;> simp [h] at g⟩

theorem startRamp_fits {code : Nat} (p : Pump) (s : State) (h : code ≤ ceilingCode s.cfg) :
    CodeFits s.cfg (startRamp code p s).pump := by
  rw [startRamp_pump]
  exact codeFits_of_running h (.inl rfl)

theorem enterSteady_fits {s : State} (h : s.pump.code ≤ ceilingCode s.cfg) : CodeFits s.cfg (enterSteady s).pump := by
  obtain ⟨hstate, -, -, hcode, -⟩ := enterSteady_reads s
  exact codeFits_of_running (hcode.trans_le h) (.inr hstate)

theorem startRamp_cfg (code : Nat) (p : Pump) (s : State) : (startRamp code p s).cfg = s.cfg := by
  simp [State.cfg, (startRamp_keeps code p s).config]

theorem rampUnlatched_fits {code : Nat} (p : Pump) (s : State) (h : code ≤ ceilingCode s.cfg) :
    CodeFits s.cfg (rampUnlatched code p s).pump := by
  unfold rampUnlatched
  dsimp only
  split
  · rw [← startRamp_cfg code p s]
    exact enterSteady_fits (by rw [startRamp_cfg, startRamp_pump]; exact h)
  · exact startRamp_fits p s h

theorem rampEnds_fits {s : State} (h : s.pump.code ≤ ceilingCode s.cfg) : CodeFits s.cfg (rampEnds s).pump := by
  unfold rampEnds
  split
  · exact enterSteady_fits h
  · extract_lets code q p
    split
    · exact enterSteady_fits (s := s.setPump p) h
    · exact rampUnlatched_fits _ s (requestCode_le ..)

theorem enterRamping_fits {code : Nat} (p : Pump) (s : State) (h : code ≤ ceilingCode s.cfg) :
    CodeFits s.cfg (enterRamping code p s).pump := by
  unfold enterRamping
  dsimp only
  split
  · rw [← startRamp_cfg code p s]
    exact rampEnds_fits (by rw [startRamp_cfg, startRamp_pump]; exact h)
  · exact startRamp_fits p s h

theorem redirectRamp_fits {code : Nat} {p : Pump} (s : State) (hp : p.state = .ramping) (h : code ≤ ceilingCode s.cfg) :
    CodeFits s.cfg (redirectRamp code p s).pump := by
  unfold redirectRamp
  extract_lets s1
  have hpump : s1.pump = { p with code := code, rampTimer := some s.cfg.rampTimeout } := pumpPut_pump ..
  have hcfg : s1.cfg = s.cfg := pumpPut_cfg ..
  split
  · rw [← hcfg]
    exact rampEnds_fits (by rw [hcfg, hpump]; exact h)
  · rw [hpump]
    exact codeFits_of_running h (.inl hp)

theorem startEnds_fits (s : State) : CodeFits s.cfg (startEnds s).pump := rampUnlatched_fits _ s (requestCode_le ..)

theorem enterStarting_fits (target : LevelReq) (s : State) : CodeFits s.cfg (enterStarting target s).pump := by
  cases h : s.lines.pumpRunning
  · rw [enterStarting_waits h]
    exact ⟨Nat.zero_le _, fun _ => rfl⟩
  · unfold enterStarting
    extract_lets p s1
    have k1 : Keeps [.pump] s s1 := (ladder_keeps _).comp rfl (pumpPut_keeps ..)
    have hcfg : s1.cfg = s.cfg := by simp [State.cfg, k1.config]
    rw [k1.lines rfl, h, if_pos rfl, ← hcfg]
    exact startEnds_fits s1

theorem requestLevel_fits {s : State} (r : LevelReq) (h : CodeFits s.cfg s.pump) :
    CodeFits s.cfg (requestLevel r s).pump := by
  unfold requestLevel
  cases hstate : s.pump.state
  case off => exact enterStarting_fits r s
  case starting => exact ⟨h.ceiling, h.stopped⟩
  case ramping => exact ⟨h.ceiling, h.stopped⟩
  case steady =>
    dsimp only
    split
    · rw [pumpPut_pump]
      exact ⟨h.ceiling, h.stopped⟩
    · exact enterRamping_fits _ s (requestCode_le ..)

theorem pumpStop_bounded {s : State} (hc : s.config.isSome = true) : PumpBounded (pumpStop s) :=
  (pumpStop_keeps s).bounded_of_pump hc (by rw [pumpStop_pump]; exact ⟨Nat.zero_le _, fun _ => rfl⟩)
    (fun _ => by rw [pumpStop_pump]; rfl)

theorem levelRequest_bounded {s : State} (r : LevelReq) (h : PumpBounded s) : PumpBounded (levelRequest r s) := by
  unfold levelRequest
  split
  · split
    · exact h
    · exact pumpStop_bounded h.configured
  · split
    · exact h
    · next hfree =>
      have h1 := requestLevel_fits r (s := s.setPump { s.pump with standbyTimer := none, offTimer := none })
        ⟨h.fits.ceiling, h.fits.stopped⟩
      exact (((ladder_keeps _).comp rfl ((requestLevel_keeps r _).comp rfl (setPump_keeps s _))).bounded_of_pump
        h.configured ⟨h1.ceiling, h1.stopped⟩ (fun g => absurd g hfree))

theorem pumpSequence_bounded {s : State} (b : Bool) (h : PumpBounded s) : PumpBounded (pumpSequence b s) :=
  h.of_reads rfl rfl rfl id

theorem orderStandby_bounded {s : State} (h : PumpBounded s) : PumpBounded (orderStandby s) := by
  have hfree := h.not_barred
  have k := orderStandby_keeps s
  unfold orderStandby at k ⊢
  dsimp only at k ⊢
  cases hstate : s.pump.state <;> simp only [hstate] at k ⊢
  case off => exact h.of_reads rfl hstate.symm rfl id
  case starting =>
    refine k.bounded_of_pump h.configured ?_ (fun g => absurd g (hfree (by simp [hstate])))
    rw [pumpPut_pump]
    exact ⟨h.fits.ceiling, fun _ => h.fits.stopped (.inr hstate)⟩
  case ramping =>
    exact k.bounded_of_pump h.configured (redirectRamp_fits s rfl (requestCode_le ..))
      (fun g => absurd g (hfree (by simp [hstate])))
  case steady =>
    refine k.bounded_of_pump h.configured ?_ (fun g => absurd g (hfree (by simp [hstate])))
    split
    · refine codeFits_of_running ?_ (.inr ?_)
      · simpa [ladder] using h.fits.ceiling
      · simp [ladder]
    · exact enterRamping_fits _ s (requestCode_le ..)

/-! ## Under a new Configure record (R154) -/

/-- The target's code computed again fits the record now in force, whatever code stood under the one replaced. -/
theorem recodeTarget_bounded {s : State} (hc : s.config.isSome = true)
    (hstopped : s.pump.state = .off ∨ s.pump.state = .starting → s.pump.code = 0)
    (hfree : ¬ Barred s) : PumpBounded (recodeTarget s) := by
  refine (recodeTarget_keeps s).bounded_of_pump hc ?_ (fun g => absurd g hfree)
  unfold recodeTarget
  cases hstate : s.pump.state <;> dsimp only
  case off => exact ⟨by simp [hstopped (.inl hstate)], hstopped⟩
  case starting => exact ⟨by simp [hstopped (.inr hstate)], hstopped⟩
  case ramping =>
    split
    · next hcode => exact codeFits_of_running (hcode.symm.trans_le (requestCode_le ..)) (.inl hstate)
    · exact redirectRamp_fits s hstate (requestCode_le ..)
  case steady =>
    split
    · next hcode => exact codeFits_of_running (hcode.symm.trans_le (requestCode_le ..)) (.inr hstate)
    · exact enterRamping_fits _ s (requestCode_le ..)

theorem pumpConfigured_bounded {s : State} (old : ConfigRec) (hc : s.config.isSome = true)
    (hstopped : s.pump.state = .off ∨ s.pump.state = .starting → s.pump.code = 0) (hfree : ¬ Barred s) :
    PumpBounded (pumpConfigured old s) :=
  (recodeTarget_bounded (s := keepTolerance old s) hc hstopped hfree).of_reads rfl rfl rfl id

/-! ## The jet told to close, FAULT and TRIP (R7, R9, R131) -/

theorem endSequence_bounded {s : State} (h : PumpBounded s) : PumpBounded (endSequence s) := by
  unfold endSequence
  split
  · exact h.of_reads rfl rfl rfl id
  · exact h

theorem closeCommand_bounded {s : State} (h : PumpBounded s) : PumpBounded (closeCommand s) := by
  unfold closeCommand
  extract_lets j s1
  have h1 : PumpBounded s1 := endSequence_bounded (h.of_reads rfl rfl rfl id)
  repeat' split
  all_goals exact h1.of_reads rfl rfl rfl id

theorem enterFault_bounded {s : State} (k : FaultKind) (detail : Nat) (h : PumpBounded s) :
    PumpBounded (enterFault k detail s) := by
  unfold enterFault
  extract_lets s1 s2 s3 s4 s5
  have h1 : PumpBounded s1 := closeCommand_bounded (discardHold_bounded (setState_bounded none (by decide) h))
  have h2 : PumpBounded s2 := by
    unfold s2
    split
    · exact h1.of_reads rfl rfl rfl id
    · exact (orderStop_keeps ..).bounded rfl rfl h1
  have h3 : PumpBounded s3 := h2.of_reads rfl rfl rfl id
  have h4 : PumpBounded s4 := by
    unfold s4
    split
    · exact levelRequest_bounded _ h3
    · exact orderStandby_bounded h3
  exact (clearAtRest_keeps _).bounded rfl rfl (setFault_bounded _ (h4.of_reads rfl rfl rfl id))

theorem raiseFault_bounded {s : State} (k : FaultKind) (detail : Nat) (h : PumpBounded s) :
    PumpBounded (raiseFault k detail s) := by
  unfold raiseFault
  cases s.job.state
  case unconfigured => exact h
  case fault => exact h.of_reads rfl rfl rfl id
  case trip => exact setFault_bounded _ h
  all_goals exact enterFault_bounded k detail h

/-- TRIP is entered with the pump stopped, whatever stood before. -/
theorem enterTrip_bounded {s : State} (k : FaultKind) (detail : Nat) (h : s.config.isSome = true) :
    PumpBounded (enterTrip k detail s) := by
  have k2 : Keeps [.job, .queue, .plan, .axis, .jet, .pump] s (clearJetRecords (flush (orderStop
      (closeCommand (discardHold (setState .trip none s))).cfg.aEmergency
      (closeCommand (discardHold (setState .trip none s)))))) :=
    (clearJetRecords_keeps _).comp rfl ((flush_keeps _).comp rfl ((orderStop_keeps ..).comp rfl
      ((closeCommand_keeps _).comp rfl ((discardHold_keeps _).comp rfl ((setState_keeps ..).comp rfl
        (Keeps.refl _ _))))))
  exact setFault_bounded _ ((pumpStop_bounded (by rw [k2.config, h])).of_reads rfl rfl rfl id)

theorem raiseTrip_bounded {s : State} (k : FaultKind) (detail : Nat) (h : PumpBounded s) :
    PumpBounded (raiseTrip k detail s) := by
  unfold raiseTrip
  split
  · exact setFault_bounded _ h
  · exact enterTrip_bounded k detail h.configured

/-! ## HOLD (R13 to R16) -/

theorem closeWatch_bounded {s : State} (h : PumpBounded s) : PumpBounded (closeWatch s) := by
  unfold closeWatch
  split
  · split
    · exact h.of_reads rfl rfl rfl id
    · extract_lets point reached
      split
      · exact closeCommand_bounded (h.of_reads rfl rfl rfl id)
      · exact h.of_reads rfl rfl rfl id
  · exact h.of_reads rfl rfl rfl id

theorem enterHold_bounded {s : State} (sub : Substate) (r : HoldReason) (z : Option Zone) (w : HoldWay)
    (h : PumpBounded s) : PumpBounded (enterHold sub r z w s) := by
  unfold enterHold
  extract_lets piercing s1 j s2 s3 s4
  have h2 : PumpBounded s2 :=
    setHold_bounded _ ((setState_bounded (s := s) (some sub) (by decide) h).of_reads rfl rfl rfl id)
  have h3 : PumpBounded s3 := by
    unfold s3
    split
    · exact closeCommand_bounded h2
    · exact h2
  have h4 : PumpBounded s4 := by
    unfold s4
    split
    · exact (holdHere_keeps _).bounded rfl rfl h3
    · exact (placeHoldStop_keeps ..).bounded rfl rfl h3
  exact closeWatch_bounded h4

theorem mergeHold_bounded {s : State} (r : HoldReason) (z : Option Zone) (w : HoldWay) (h : PumpBounded s) :
    PumpBounded (mergeHold r z w s) := by
  unfold mergeHold
  split
  · exact h
  · extract_lets s1
    have h1 : PumpBounded s1 := setHold_bounded _ h
    split
    · exact closeWatch_bounded ((planCore_keeps _).bounded rfl rfl h1)
    · exact closeWatch_bounded ((holdHere_keeps _).bounded rfl rfl h1)
    · split
      · exact (nearerHoldStop_keeps _).bounded rfl rfl (closeCommand_bounded h1)
      · exact (planCore_keeps _).bounded rfl rfl h1

theorem raiseHold_bounded {s : State} (r : HoldReason) (z : Option Zone) (w : HoldWay) (h : PumpBounded s) :
    PumpBounded (raiseHold r z w s) := by
  unfold raiseHold
  cases s.job.state
  case run => exact enterHold_bounded _ r z w h
  case hold => exact mergeHold_bounded r z w h
  all_goals exact h

/-- A GUARD condition for each of some zones. -/
theorem guardHolds_bounded {s : State} (zones : List Zone) (w : HoldWay) (h : PumpBounded s) :
    PumpBounded (zones.foldl (fun t z => raiseHold .guard (some z) w t) s) := by
  induction zones generalizing s with
  | nil => exact h
  | cons z zones ih => exact ih (raiseHold_bounded _ _ w h)

theorem replan_bounded {s : State} (h : PumpBounded s) : PumpBounded (replan s) :=
  closeWatch_bounded (guardHolds_bounded _ _ ((planCore_keeps s).bounded rfl rfl h))

/-! ## Sequences (R122 to R128) -/

theorem jetOpen_bounded {s : State} (h : PumpBounded s) : PumpBounded (jetOpen s) := by
  unfold jetOpen
  extract_lets j s1 s2
  have h2 : PumpBounded s2 := h.of_reads rfl rfl rfl id
  split
  · exact enterHold_bounded _ _ _ _ h2
  · exact replan_bounded (setState_bounded _ (by decide) h2)

theorem checkRamping_bounded {s : State} (h : PumpBounded s) : PumpBounded (checkRamping s) := by
  unfold checkRamping
  split
  · have h1 := (zCommand_keeps .cut s).bounded rfl rfl h
    dsimp only
    split
    · exact jetOpen_bounded h1
    · exact h1
  · exact h

theorem enterJetRamping_bounded {s : State} (h : PumpBounded s) : PumpBounded (enterJetRamping s) :=
  checkRamping_bounded (levelRequest_bounded _ (h.of_reads rfl rfl rfl id))

theorem valveOpens_bounded {s : State} (r : SeqRecord) (h : PumpBounded s) : PumpBounded (valveOpens r s) := by
  unfold valveOpens
  dsimp only
  split <;> exact h.of_reads rfl rfl rfl id

theorem openValve_bounded {s : State} (h : PumpBounded s) : PumpBounded (openValve s) := by
  unfold openValve
  split
  · exact h
  · next r _ =>
    have h1 := valveOpens_bounded r h
    dsimp only
    repeat' split
    · exact h1.of_reads rfl rfl rfl id
    · exact (layCreep_keeps ..).bounded rfl rfl (h1.of_reads rfl rfl rfl id)
    · exact enterJetRamping_bounded h1

theorem endPreparing_bounded {s : State} (h : PumpBounded s) : PumpBounded (endPreparing s) := by
  unfold endPreparing
  dsimp only
  repeat' split
  · exact openValve_bounded (h.of_reads rfl rfl rfl id)
  · exact h.of_reads rfl rfl rfl id
  · exact openValve_bounded (h.of_reads rfl rfl rfl id)

theorem checkPreparing_bounded {s : State} (h : PumpBounded s) : PumpBounded (checkPreparing s) := by
  unfold checkPreparing
  repeat' split
  case h_2.isTrue.isTrue.isTrue => exact endPreparing_bounded h
  all_goals exact h.of_reads rfl rfl rfl id

theorem enterPreparing_bounded {s : State} (h : PumpBounded s) : PumpBounded (enterPreparing s) := by
  unfold enterPreparing
  split
  · exact h
  · exact checkPreparing_bounded (levelRequest_bounded _ ((zCommand_keeps ..).bounded rfl rfl
      (pumpSequence_bounded true (h.of_reads rfl rfl rfl id))))

theorem seqAdvance_bounded {s : State} (h : PumpBounded s) : PumpBounded (seqAdvance s) := by
  unfold seqAdvance
  cases s.jet.state
  case preparing => exact checkPreparing_bounded h
  case ramping => exact checkRamping_bounded h
  all_goals exact h

theorem beginSequence_bounded {s : State} (h : PumpBounded s) : PumpBounded (beginSequence s) := by
  unfold beginSequence
  dsimp only
  repeat' split
  case h_2.isTrue => exact enterPreparing_bounded (h.of_reads rfl rfl rfl id)
  all_goals exact h.of_reads rfl rfl rfl id

/-! ## Going on, and what waits for standstill -/

theorem beginNeed_bounded {s : State} (n : Need) (h : PumpBounded s) : PumpBounded (beginNeed n s) := by
  cases n with
  | nothing => exact setState_bounded _ (by decide) h
  | atEnd =>
    dsimp only [beginNeed]
    split
    · exact h
    · exact setState_bounded _ (by decide) h
  | backtrack => exact setState_bounded _ (by decide) h
  | sequence => exact beginSequence_bounded ((planCore_keeps _).bounded rfl rfl (setState_bounded _ (by decide) h))
  | move => exact (clearForTraverse_keeps _).bounded rfl rfl (setState_bounded _ (by decide) h)

theorem proceed_bounded {s : State} (h : PumpBounded s) : PumpBounded (proceed s) := by
  unfold proceed
  extract_lets n w s1
  have h1 : PumpBounded s1 := by
    unfold s1
    split
    · exact h
    · exact setState_bounded _ (by decide) h
  repeat' split
  · exact beginNeed_bounded n h
  · exact (clearForTraverse_keeps _).bounded rfl rfl (setState_bounded _ (by decide) h)
  · exact guardHolds_bounded _ _ h1

theorem retireEnd_bounded {s : State} (e : QueueEntry) (h : PumpBounded s) : PumpBounded (retireEnd e s) :=
  (retireEnd_keeps e s).bounded_of_job rfl (by simp [Barred, retireEnd_job]) h

theorem runSettle_bounded {s : State} (h : PumpBounded s) : PumpBounded (runSettle s) := by
  unfold runSettle
  repeat' split
  · exact retireEnd_bounded _ h
  · exact h
  · exact setState_bounded _ (by decide) h
  · exact h

theorem abortSettle_bounded {s : State} (h : PumpBounded s) : PumpBounded (abortSettle s) := by
  unfold abortSettle
  split
  · exact (zCommand_keeps ..).bounded rfl rfl (setState_bounded _ (by decide) (h.of_reads rfl rfl rfl id))
  · exact h

theorem holdSettle_bounded {s : State} (h : PumpBounded s) : PumpBounded (holdSettle s) := by
  refine heldWhenStill_bounded ?_
  split
  · exact (recoveryInHold_keeps s).bounded rfl rfl h
  · exact h

theorem settle_bounded {s : State} (h : PumpBounded s) : PumpBounded (settle s) := by
  unfold settle
  split
  · cases s.job.state
    case hold => exact holdSettle_bounded h
    case aborting => exact abortSettle_bounded h
    case run => exact runSettle_bounded h
    all_goals exact h
  · exact h

theorem done_bounded {s : State} (h : PumpBounded s) : PumpBounded (done s) :=
  (lampDerive_keeps _).bounded rfl rfl (settle_bounded h)

theorem kick_bounded {s : State} (h : PumpBounded s) : PumpBounded (kick s) := h.of_reads rfl rfl rfl id

theorem wrapUp_bounded {s : State} (h : PumpBounded s) : PumpBounded (wrapUp s) :=
  kick_bounded ((lampDerive_keeps s).bounded rfl rfl h)

theorem pumpDone_bounded {s : State} (h : PumpBounded s) : PumpBounded (pumpDone s) :=
  wrapUp_bounded (settle_bounded (seqAdvance_bounded h))

/-- The head goes on from where it stands, with its plan made anew (R17, R18, R39). -/
theorem goOn_bounded {s : State} (h : PumpBounded s) : PumpBounded (done (proceed (planCore (placeApproach s)))) :=
  done_bounded (proceed_bounded ((planCore_keeps _).bounded rfl rfl ((placeApproach_keeps s).bounded rfl rfl h)))

/-! ## One interpolation period -/

theorem arriveMoving_bounded {s : State} (h : PumpBounded s) : PumpBounded (arriveMoving s) := by
  unfold arriveMoving
  repeat' split
  · exact h
  · exact h
  · exact proceed_bounded ((planCore_keeps s).bounded rfl rfl h)
  · exact (clearForTraverse_keeps s).bounded rfl rfl h

theorem arriveHolding_bounded {s : State} (h : PumpBounded s) : PumpBounded (arriveHolding s) := by
  unfold arriveHolding
  repeat' split
  · exact h
  · exact guardHolds_bounded _ _ h
  · exact closeWatch_bounded ((holdHere_keeps s).bounded rfl rfl h)
  · exact h

theorem arrivePiercing_bounded {s : State} (h : PumpBounded s) : PumpBounded (arrivePiercing s) := by
  unfold arrivePiercing
  repeat' split
  · exact guardHolds_bounded _ _ h
  · exact enterJetRamping_bounded h
  · exact h

theorem arrive_bounded {s : State} (h : PumpBounded s) : PumpBounded (arrive s) := by
  unfold arrive
  split
  · have hc := (commitHere_keeps s).bounded rfl rfl h
    cases s.job.state
    case run =>
      have h1 := (recoveryAtStop_keeps _).bounded rfl rfl hc
      dsimp only
      repeat' split
      · exact arriveMoving_bounded h1
      · exact proceed_bounded ((backtrackDone_keeps _).bounded rfl rfl h1)
      · exact h1
      · exact arrivePiercing_bounded h1
      · exact h1
    case hold => exact arriveHolding_bounded ((recoveryInHold_keeps _).bounded rfl rfl hc)
    all_goals exact h
  · exact h

theorem followCheck_bounded {s : State} (h : PumpBounded s) : PumpBounded (followCheck s) := by
  unfold followCheck
  split
  · extract_lets c ex ey excursion count detail a s1
    have h1 : PumpBounded s1 := h.of_reads rfl rfl rfl id
    clear_value detail
    cases detail with
    | some d => exact raiseFault_bounded _ _ h1
    | none => exact h1
  · exact h

theorem driveCheck_bounded {s : State} (h : PumpBounded s) : PumpBounded (driveCheck s) := by
  unfold driveCheck
  repeat' split
  · exact raiseFault_bounded _ _ h
  all_goals exact h

theorem homingSuccess_bounded {s : State} (h : PumpBounded s) : PumpBounded (homingSuccess s) := by
  unfold homingSuccess
  dsimp only
  repeat' split
  · exact (planCore_keeps _).bounded rfl rfl (setState_bounded _ (by decide) (h.of_reads rfl rfl rfl id))
  all_goals exact h

theorem homingSeek_bounded {s : State} (h : PumpBounded s) : PumpBounded (homingSeek s) := by
  unfold homingSeek
  split
  · split
    · exact homingSuccess_bounded (h.of_reads rfl rfl rfl id)
    · exact h
  · exact h

theorem homingPeriod_bounded {s : State} (g : Homing) (h : PumpBounded s) : PumpBounded (homingPeriod g s) := by
  unfold homingPeriod
  dsimp only
  repeat' split
  · exact (clearAfterStop_keeps _).bounded rfl rfl (h.of_reads rfl rfl rfl id)
  · exact h.of_reads rfl rfl rfl id
  · exact homingSeek_bounded (homingSuccess_bounded (h.of_reads rfl rfl rfl id))

theorem motion_bounded {s : State} (h : PumpBounded s) : PumpBounded (motion s) := by
  unfold motion
  split
  · exact h.of_reads rfl rfl rfl id
  · split
    · exact homingSeek_bounded ((stopRunPeriod_keeps ..).bounded rfl rfl h)
    · split
      · exact homingPeriod_bounded _ h
      · cases s.job.state
        case run => exact (pathPeriod_keeps s).bounded rfl rfl h
        case hold => exact (pathPeriod_keeps s).bounded rfl rfl h
        case aborting => exact (pathPeriod_keeps s).bounded rfl rfl h
        all_goals exact h.of_reads rfl rfl rfl id

theorem period_bounded {s : State} (fb : Point) (homeX homeY : Bool) (h : PumpBounded s) :
    PumpBounded (period fb homeX homeY s) :=
  settle_bounded (arrive_bounded (closeWatch_bounded (followCheck_bounded (motion_bounded
    ((sample_keeps ..).bounded rfl rfl h)))))

/-! ## Requests -/

theorem afterAppend_bounded {s : State} (h : PumpBounded s) : PumpBounded (afterAppend s) := by
  unfold afterAppend
  split
  · exact goOn_bounded h
  · exact done_bounded (replan_bounded h)

theorem firstConfigured_bounded {s : State} (h : PumpBounded s) : PumpBounded (firstConfigured s) := by
  unfold firstConfigured
  extract_lets s1 j s2
  have h1 : PumpBounded s1 := (deriveClosed_keeps _).bounded rfl rfl (setState_bounded none (by decide) h)
  have h2 : PumpBounded s2 := by
    unfold s2
    split <;> exact h1.of_reads rfl rfl rfl id
  exact driveCheck_bounded ((planCore_keeps _).bounded rfl rfl ((zTimerOnConfigured_keeps _).bounded rfl rfl h2))

/-- A Configure is refused or puts its record in force: a first one finds the pump OFF at code 0, and a later one, in
IDLE, computes its code again. -/
theorem answerConfigure_cases {s : State} (r : ConfigRec)
    (hstopped : s.pump.state = .off ∨ s.pump.state = .starting → s.pump.code = 0)
    (hbarred : Barred s → s.pump.state = .off) :
    (answerConfigure r s).state = s ∨ PumpBounded (answerConfigure r s).state := by
  unfold answerConfigure
  split
  · next htaken =>
    split
    · exact .inl rfl
    · refine .inr (done_bounded ?_)
      split
      · next hun =>
        have hcode : s.pump.code = 0 := hstopped (.inl (hbarred (.inl hun)))
        exact firstConfigured_bounded ⟨rfl, ⟨hcode.trans_le (Nat.zero_le _), hstopped⟩, hbarred⟩
      · next hun =>
        have hidle : s.job.state = .idle := by
          simp only [configureTaken, Bool.or_eq_true, Bool.and_eq_true, beq_iff_eq, hun, false_or] at htaken
          exact htaken.1
        refine (planCore_keeps _).bounded rfl rfl (pumpConfigured_bounded _ rfl hstopped ?_)
        simp [Barred, deriveClosed, hidle]
  · exact .inl rfl

theorem answerConfigure_bounded {s : State} (r : ConfigRec) (h : PumpBounded s) :
    PumpBounded (answerConfigure r s).state := by
  obtain e | hb := answerConfigure_cases r h.fits.stopped h.barred
  · rw [e]
    exact h
  · exact hb

theorem answerSegment_bounded {s : State} (r : SegmentReq) (h : PumpBounded s) :
    PumpBounded (answerSegment r s).state := by
  unfold answerSegment
  repeat' split
  · exact h
  · exact h
  · exact afterAppend_bounded ((acceptEntries_keeps ..).bounded rfl rfl h)
  · exact h

theorem answerPlace_bounded {s : State} (r : PlaceReq) (h : PumpBounded s) : PumpBounded (answerPlace r s).state := by
  unfold answerPlace
  repeat' split
  · exact h
  · exact afterAppend_bounded ((acceptEntries_keeps ..).bounded rfl rfl h)
  · exact h

theorem answerRun_bounded {s : State} (h : PumpBounded s) : PumpBounded (answerRun s).state := by
  unfold answerRun
  repeat' split
  · exact goOn_bounded (h.of_reads rfl rfl rfl id)
  all_goals exact h

theorem takeHold_bounded {s : State} (h : PumpBounded s) : PumpBounded (takeHold s) := by
  unfold takeHold
  repeat' split
  all_goals exact enterHold_bounded _ _ _ _ h

theorem answerHold_bounded {s : State} (h : PumpBounded s) : PumpBounded (answerHold s).state := by
  unfold answerHold
  repeat' split
  · exact h.of_reads rfl rfl rfl id
  · exact done_bounded (takeHold_bounded h)
  all_goals exact h

theorem takeResume_bounded {s : State} (h : PumpBounded s) : PumpBounded (takeResume s) := by
  unfold takeResume
  extract_lets abrasive p s1 s2
  have h1 : PumpBounded s1 := clearHold_bounded (h.of_reads rfl rfl rfl id)
  refine goOn_bounded ?_
  unfold s2
  split
  · exact (recoveryStart_keeps s1).bounded rfl rfl h1
  · exact h1

theorem answerResume_bounded {s : State} (h : PumpBounded s) : PumpBounded (answerResume s).state := by
  unfold answerResume
  repeat' split
  · exact h
  · exact takeResume_bounded h
  all_goals exact h

theorem enterAborting_bounded {s : State} (h : PumpBounded s) : PumpBounded (enterAborting s) := by
  unfold enterAborting
  extract_lets homing s1
  have h1 : PumpBounded s1 := closeCommand_bounded (discardHold_bounded (setState_bounded none (by decide) h))
  refine (placeAbortStop_keeps _).bounded rfl rfl ?_
  split
  · exact ((orderStop_keeps _ s1).bounded rfl rfl h1).of_reads rfl rfl rfl id
  · exact h1

theorem answerStop_bounded {s : State} (h : PumpBounded s) : PumpBounded (answerStop s).state := by
  unfold answerStop
  cases s.job.state
  case idle => exact done_bounded (h.of_reads rfl rfl rfl id)
  case homing | run | hold => exact done_bounded (enterAborting_bounded h)
  all_goals exact h

theorem takeClear_bounded {s : State} (h : PumpBounded s) : PumpBounded (takeClear s) := by
  unfold takeClear
  extract_lets s1 j a s2
  have h1 : PumpBounded s1 := setState_bounded none (by decide) (setFault_bounded _ h)
  have h2 : PumpBounded s2 := h1.of_reads rfl rfl rfl id
  refine done_bounded ((planCore_keeps _).bounded rfl rfl ?_)
  split
  · exact h2
  · exact (clearAfterStop_keeps _).bounded rfl rfl h2

theorem answerClear_bounded {s : State} (h : PumpBounded s) : PumpBounded (answerClear s).state := by
  unfold answerClear
  cases s.job.state
  case fault =>
    dsimp only
    repeat' split
    · exact h
    · exact h
    · exact takeClear_bounded h
    · exact takeClear_bounded h
  all_goals exact h

theorem answerReference_bounded {s : State} (h : PumpBounded s) : PumpBounded (answerReference s).state := by
  unfold answerReference
  cases s.job.state
  case idle =>
    have h1 : PumpBounded (setState .homing none (s.setJob { s.job with referenced := false })) :=
      setState_bounded none (by decide) (h.of_reads rfl rfl rfl id)
    exact done_bounded (homingSeek_bounded ((planCore_keeps _).bounded rfl rfl
      ((zCommand_keeps ..).bounded rfl rfl (h1.of_reads rfl rfl rfl id))))
  all_goals exact h

theorem answerPressure_bounded {s : State} (level slot : Nat) (h : PumpBounded s) :
    PumpBounded (answerPressure level slot s).state := by
  unfold answerPressure
  repeat' split
  · exact h
  · exact levelRequest_bounded _ h
  · exact h

theorem takeOverride_bounded {s : State} (percent : Nat) (h : PumpBounded s) :
    PumpBounded (takeOverride percent s) := by
  unfold takeOverride
  extract_lets j s1
  have h1 : PumpBounded s1 := h.of_reads rfl rfl rfl id
  have hplan (former : Nat) : PumpBounded (done (overridePlan former s1)) :=
    done_bounded (replan_bounded (((planCore_keeps _).bounded rfl rfl
      (h1.of_reads (t := s1.setPlan { s1.plan with transition := none }) rfl rfl rfl id)).of_reads rfl rfl rfl id))
  cases s.job.state
  case run | hold => exact hplan _
  all_goals exact h1

theorem answerMaterial_bounded {s : State} (r : MaterialReq) (h : PumpBounded s) :
    PumpBounded (answerMaterial r s).state := by
  unfold answerMaterial
  repeat' split
  all_goals exact h.of_reads rfl rfl rfl id

theorem answerTemplate_bounded {s : State} (r : TemplateReq) (h : PumpBounded s) :
    PumpBounded (answerTemplate r s).state := by
  unfold answerTemplate
  repeat' split
  all_goals exact h.of_reads rfl rfl rfl id

theorem answerNozzle_bounded {s : State} (r : NozzleReq) (h : PumpBounded s) :
    PumpBounded (answerNozzle r s).state := by
  unfold answerNozzle
  repeat' split
  · exact h
  · exact (nozzleAccepted_keeps ..).bounded rfl rfl (h.of_reads rfl rfl rfl id)
  · exact h

/-! ## The resets (R25, R26) -/

theorem warmJet_bounded {s : State} (h : PumpBounded s) : PumpBounded (warmJet s) := by
  unfold warmJet
  extract_lets j s1
  have h1 : PumpBounded s1 :=
    (clearJetRecords_keeps _).bounded rfl rfl (endSequence_bounded (h.of_reads rfl rfl rfl id))
  split <;> exact h1.of_reads rfl rfl rfl id

/-- A part with a Configure record is in IDLE after a warm reset. -/
theorem warmJob_bounded {s : State} (h : PumpBounded s) : PumpBounded (warmJob s) :=
  h.of_reads rfl rfl rfl (fun g => by simp [Barred, warmJob, State.configured, h.configured] at g)

theorem warmReset_bounded {s : State} (h : PumpBounded s) : PumpBounded (warmReset s) := by
  unfold warmReset
  extract_lets s1 s2
  have hk : Keeps [.axis, .queue, .plan] s (flush (warmAxis s)) :=
    (flush_keeps _).comp rfl ((warmAxis_keeps s).comp rfl (Keeps.refl _ _))
  have h1 : PumpBounded s1 :=
    warmJet_bounded (warmJob_bounded (hk.bounded rfl rfl h))
  have h2 : PumpBounded (warmPump s1) := (orderStandby_bounded h1).of_reads rfl rfl rfl id
  exact ((lampDerive_keeps _).bounded rfl rfl ((deriveClosed_keeps _).bounded rfl rfl
    ((planCore_keeps _).bounded rfl rfl ((warmZ_keeps _).bounded rfl rfl h2)))).of_reads rfl rfl rfl id

theorem tripsAfterReset_bounded {s : State} (h : PumpBounded s) : PumpBounded (tripsAfterReset s) := by
  unfold tripsAfterReset
  generalize activeTrips s.lines = ks
  induction ks generalizing s with
  | nil => exact h
  | cons k ks ih => exact ih (raiseTrip_bounded k 0 h)

/-! ## Answers and frames -/

/-- Whatever the owner of a request answers, the pump stays within its bounds. -/
theorem answerOf_bounded {s : State} (r : Request) (h : PumpBounded s) :
    PumpBounded (answerOf r s).state := by
  cases r with
  | configure r => exact answerConfigure_bounded r h
  | material r => exact answerMaterial_bounded r h
  | nozzle r => exact answerNozzle_bounded r h
  | template r => exact answerTemplate_bounded r h
  | segment r => exact answerSegment_bounded r h
  | place r => exact answerPlace_bounded r h
  | run => exact answerRun_bounded h
  | hold => exact answerHold_bounded h
  | resume => exact answerResume_bounded h
  | stop => exact answerStop_bounded h
  | clear => exact answerClear_bounded h
  | reference => exact answerReference_bounded h
  | pressure level slot => exact answerPressure_bounded level slot h
  | override percent => exact takeOverride_bounded percent h
  | query => exact h
  | restart =>
    dsimp only [answerOf, answerRestart]
    split
    · exact h
    · exact warmReset_bounded h

theorem deliver_bounded {a : Answer} (tag : Byte) (kind : Nat) (h : PumpBounded a.state) :
    PumpBounded (deliver tag kind a) := by
  rw [deliver_eq]
  exact h.of_reads rfl rfl rfl id

/-- A command that is served as a request is answered as its frame is. -/
theorem serve_bounded {s : State} (tag : Byte) (kind : Nat) (r : Request) (h : PumpBounded s) :
    PumpBounded (serve tag kind (answerOf r) s) := by
  unfold serve
  split
  · exact kick_bounded (deliver_bounded tag kind (answerOf_bounded r h))
  · exact h.of_reads rfl rfl rfl id

theorem restartWithRoom_bounded {s : State} (tag : Byte) (h : PumpBounded s) : PumpBounded (restartWithRoom tag s) := by
  unfold restartWithRoom
  extract_lets a s1
  have h1 : PumpBounded s1 := deliver_bounded tag 0x10 (answerOf_bounded .restart h)
  split
  · exact (lampDerive_keeps _).bounded rfl rfl (tripsAfterReset_bounded (driveCheck_bounded
      (h1.of_reads rfl rfl rfl id)))
  · exact h1

theorem frameDone_bounded {s : State} (kind : Nat) (tag : Byte) (payload : List Byte) (h : PumpBounded s) :
    PumpBounded (frameDone kind tag payload s) := by
  unfold frameDone
  repeat' split
  · exact deliver_bounded tag kind h
  · exact restartWithRoom_bounded tag h
  · exact deliver_bounded tag kind (answerOf_bounded _ h)
  · exact deliver_bounded tag kind h
  · exact deliver_bounded tag kind h
  · exact h.of_reads rfl rfl rfl id

/-- What a received byte does: the framer alone changes, or a frame is completed with the framer back in HUNT (R172). -/
theorem takeByte_cases (b : Byte) (s : State) :
    (∃ l, takeByte b s = s.setLink l) ∨ ∃ kind tag payload, takeByte b s = frameDone kind tag payload (hunt s) := by
  unfold takeByte
  cases s.link.phase with
  | hunt => left; dsimp only; split <;> exact ⟨_, rfl⟩
  | sync => left; dsimp only; repeat' split
            all_goals exact ⟨_, rfl⟩
  | header => left; dsimp only [headerByte]; repeat' split
              all_goals exact ⟨_, rfl⟩
  | payload => left; exact ⟨_, rfl⟩
  | check =>
    dsimp only [checkByte]
    repeat' split
    · exact .inl ⟨_, rfl⟩
    · exact .inr ⟨_, _, _, rfl⟩
    · exact .inl ⟨_, rfl⟩

theorem takeByte_bounded {s : State} (b : Byte) (h : PumpBounded s) :
    PumpBounded (takeByte b s) := by
  obtain ⟨l, e⟩ | ⟨kind, tag, payload, e⟩ := takeByte_cases b s <;> rw [e]
  · exact h.of_reads rfl rfl rfl id
  · exact frameDone_bounded _ _ _ (h.of_reads rfl rfl rfl id)

/-! ## Events -/

theorem homingTimedOut_bounded {s : State} (h : PumpBounded s) : PumpBounded (homingTimedOut s) := by
  unfold homingTimedOut
  repeat' split
  · exact h
  · exact h
  · exact raiseFault_bounded _ _ (h.of_reads rfl rfl rfl id)

theorem zTimedOut_bounded {s : State} (h : PumpBounded s) : PumpBounded (zTimedOut s) := by
  unfold zTimedOut
  dsimp only
  repeat' split
  · exact h
  · exact h.of_reads rfl rfl rfl id
  · exact raiseFault_bounded _ _ (h.of_reads rfl rfl rfl id)

theorem settleExpiry_bounded {s : State} (h : PumpBounded s) : PumpBounded (settleExpiry s) := by
  unfold settleExpiry
  split
  · exact done_bounded (endPreparing_bounded h)
  · exact h

theorem leadExpiry_bounded {s : State} (h : PumpBounded s) : PumpBounded (leadExpiry s) := by
  unfold leadExpiry
  split
  · exact done_bounded (openValve_bounded h)
  · exact h

theorem dwellExpiry_bounded {s : State} (h : PumpBounded s) : PumpBounded (dwellExpiry s) := by
  unfold dwellExpiry
  split
  · exact done_bounded (enterJetRamping_bounded h)
  · exact h

theorem jetClosedNow_bounded {s : State} (h : PumpBounded s) : PumpBounded (jetClosedNow s) := by
  have hk := (recoveryAtSwitch_keeps (s.setJet { s.jet with state := .closed, valveTimer := none })).bounded rfl rfl
    (h.of_reads rfl rfl rfl id)
  exact enterPreparing_bounded (hk.of_reads rfl rfl rfl id)

theorem switchActive_bounded {s : State} (h : PumpBounded s) : PumpBounded (switchActive s) := by
  unfold switchActive
  dsimp only
  split
  · exact done_bounded (jetClosedNow_bounded (h.of_reads rfl rfl rfl id))
  · exact h.of_reads rfl rfl rfl id

theorem switchInactive_bounded {s : State} (h : PumpBounded s) : PumpBounded (switchInactive s) := by
  unfold switchInactive
  dsimp only
  split <;> exact h.of_reads rfl rfl rfl id

theorem valveCondition_bounded {s : State} (started : CtrlState) (h : PumpBounded s) :
    PumpBounded (valveCondition started s) := by
  unfold valveCondition
  cases s.job.state
  case idle | homing | run | hold => exact raiseFault_bounded _ _ h
  case fault | aborting | trip => exact raiseTrip_bounded _ _ h
  case unconfigured => exact h

theorem valveTimedOut_bounded {s : State} (h : PumpBounded s) : PumpBounded (valveTimedOut s) := by
  unfold valveTimedOut
  split
  · exact done_bounded (valveCondition_bounded _ (h.of_reads rfl rfl rfl id))
  · exact h

theorem abrasiveLoss_bounded {s : State} (h : PumpBounded s) : PumpBounded (abrasiveLoss s) := by
  unfold abrasiveLoss
  split
  · exact raiseFault_bounded _ _ h
  · exact raiseHold_bounded _ _ _ h

theorem windowExpiry_bounded {s : State} (h : PumpBounded s) : PumpBounded (windowExpiry s) := by
  unfold windowExpiry
  split
  · exact done_bounded (abrasiveLoss_bounded (h.of_reads rfl rfl rfl id))
  · exact h

theorem enterStarting_bounded {s : State} (target : LevelReq) (hc : s.config.isSome = true) (hfree : ¬ Barred s) :
    PumpBounded (enterStarting target s) :=
  (enterStarting_keeps target s).bounded_of_pump hc (enterStarting_fits target s) (fun g => absurd g hfree)

theorem startEnds_bounded {s : State} (hc : s.config.isSome = true) (hfree : ¬ Barred s) :
    PumpBounded (startEnds s) :=
  (startEnds_keeps s).bounded_of_pump hc (startEnds_fits s) (fun g => absurd g hfree)

theorem runningLost_bounded {s : State} (h : PumpBounded s) (hon : s.pump.state ≠ .off) :
    PumpBounded (runningLost s) := by
  unfold runningLost
  split
  · exact raiseFault_bounded _ _ h
  · exact enterStarting_bounded _ h.configured (h.not_barred hon)

theorem startExpiry_bounded {s : State} (h : PumpBounded s) : PumpBounded (startExpiry s) := by
  unfold startExpiry
  split
  · exact pumpDone_bounded (raiseFault_bounded _ _ (pumpStop_bounded h.configured))
  · exact h

theorem rampExpiry_bounded {s : State} (h : PumpBounded s) : PumpBounded (rampExpiry s) := by
  unfold rampExpiry
  split
  · exact pumpDone_bounded (raiseFault_bounded _ _ (pumpStop_bounded h.configured))
  · exact h

theorem bandExpiry_bounded {s : State} (h : PumpBounded s) : PumpBounded (bandExpiry s) := by
  unfold bandExpiry
  split
  · next hsteady _ =>
    extract_lets p s1
    have h1 : PumpBounded s1 := h.of_reads rfl rfl rfl id
    split
    · exact pumpDone_bounded (raiseFault_bounded _ _ h1)
    · exact pumpDone_bounded ((enterRamping_keeps ..).bounded_of_pump h1.configured
        (enterRamping_fits _ s1 h1.fits.ceiling) (fun g => absurd g (h.not_barred (by simp [hsteady]))))
  · exact h

theorem takeReading_bounded {s : State} (h : PumpBounded s) : PumpBounded (takeReading s) := by
  unfold takeReading
  cases hstate : s.pump.state
  case ramping =>
    dsimp only
    split
    · exact pumpDone_bounded ((rampEnds_keeps s).bounded_of_pump h.configured (rampEnds_fits h.fits.ceiling)
        (fun g => absurd g (h.not_barred (by simp [hstate]))))
    · exact h
  case steady => exact h.of_reads rfl rfl rfl id
  all_goals exact h

theorem standbyExpiry_bounded {s : State} (h : PumpBounded s) : PumpBounded (standbyExpiry s) := by
  unfold standbyExpiry
  split
  · exact pumpDone_bounded (levelRequest_bounded _ (h.of_reads rfl rfl rfl id))
  · exact h

theorem offExpiry_bounded {s : State} (h : PumpBounded s) : PumpBounded (offExpiry s) := by
  unfold offExpiry
  split
  · exact pumpDone_bounded (levelRequest_bounded _ (h.of_reads rfl rfl rfl id))
  · exact h

theorem gapExpiry_bounded {s : State} (h : PumpBounded s) : PumpBounded (gapExpiry s) := by
  unfold gapExpiry
  split <;> exact h.of_reads rfl rfl rfl id

theorem guardOpens_bounded {s : State} (z : Zone) (h : PumpBounded s) : PumpBounded (guardOpens z s) := by
  unfold guardOpens
  extract_lets s1
  have h1 : PumpBounded s1 := h.of_reads rfl rfl rfl id
  split
  · cases s1.job.state
    case run =>
      dsimp only [guardOpensRunning]
      split
      · exact raiseHold_bounded _ _ _ h1
      · exact replan_bounded h1
    case hold =>
      dsimp only [guardOpensHolding]
      repeat' split
      · exact raiseHold_bounded _ _ _ h1
      · exact raiseHold_bounded _ _ _ h1
      · exact replan_bounded h1
    case idle | homing => exact (planCore_keeps s1).bounded rfl rfl h1
    all_goals exact h1
  · exact h1

theorem guardCloses_bounded {s : State} (z : Zone) (h : PumpBounded s) : PumpBounded (guardCloses z s) := by
  unfold guardCloses
  extract_lets s1
  have h1 : PumpBounded s1 := h.of_reads rfl rfl rfl id
  repeat' split
  · exact h1
  · exact proceed_bounded ((planCore_keeps s1).bounded rfl rfl h1)
  · exact replan_bounded h1

theorem minuteReached_bounded {s : State} (h : PumpBounded s) : PumpBounded (minuteReached s) := by
  unfold minuteReached
  repeat' split
  · exact (minuteRise_keeps ..).bounded rfl rfl h
  all_goals exact h

theorem wearMs_keeps (s : State) : Keeps [.wear] s (wearMs s) := by
  unfold wearMs
  repeat' split
  case h_2.isTrue.isFalse.isFalse => exact minuteRise_keeps ..
  all_goals exact setWear_keeps ..

/-- A millisecond of the part's own time moves the pump's timers alone (log entry 8). -/
theorem tick_reads (s : State) : (tick s).job.state = s.job.state ∧ (tick s).config = s.config
    ∧ (tick s).pump.state = s.pump.state ∧ (tick s).pump.code = s.pump.code := by
  unfold tick
  extract_lets j l s1
  have k := wearMs_keeps ((s1.setJet (jetMs s1.jet)).setPump (pumpMs s1.pump))
  simp only [kick_eq, k.job rfl, k.config, k.pump rfl]
  exact ⟨rfl, rfl, rfl, rfl⟩

/-! ## Every command -/

theorem exec_bounded {c : Instr} {s t : State} (h : PumpBounded s) (hc : c ≠ .powerOnReset)
    (e : exec c s = .next t) : PumpBounded t := by
  cases c <;> cases e
  case configure tag r => exact serve_bounded tag 0x01 (.configure r) h
  case material tag r => exact serve_bounded tag 0x02 (.material r) h
  case nozzle tag r => exact serve_bounded tag 0x03 (.nozzle r) h
  case template tag r => exact serve_bounded tag 0x04 (.template r) h
  case segment tag r => exact serve_bounded tag 0x05 (.segment r) h
  case place tag r => exact serve_bounded tag 0x06 (.place r) h
  case run tag => exact serve_bounded tag 0x07 .run h
  case hold tag => exact serve_bounded tag 0x08 .hold h
  case resume tag => exact serve_bounded tag 0x09 .resume h
  case stop tag => exact serve_bounded tag 0x0A .stop h
  case clear tag => exact serve_bounded tag 0x0B .clear h
  case reference tag => exact serve_bounded tag 0x0C .reference h
  case pressure tag level slot => exact serve_bounded tag 0x0D (.pressure level slot) h
  case override tag percent => exact serve_bounded tag 0x0E (.override percent) h
  case query tag => exact serve_bounded tag 0x0F .query h
  case restart tag =>
    refine kick_bounded ?_
    split
    · exact restartWithRoom_bounded tag h
    · exact h.of_reads rfl rfl rfl id
  case receivedByte b => exact kick_bounded (takeByte_bounded b h)
  case gapTimerExpiry => exact gapExpiry_bounded h
  case transmitComplete => exact h.of_reads rfl rfl rfl id
  case powerOnReset => exact absurd rfl hc
  case tripInputActive k => exact wrapUp_bounded (raiseTrip_bounded _ _ (h.of_reads rfl rfl rfl id))
  case tripInputInactive k => exact h.of_reads rfl rfl rfl id
  case residencyExpiry => exact h.of_reads rfl rfl rfl id
  case interpolationPeriod fbX fbY homeX homeY => exact wrapUp_bounded (period_bounded _ _ _ h)
  case homingTimeout => exact wrapUp_bounded (homingTimedOut_bounded h)
  case zReachedChange z =>
    exact wrapUp_bounded (settle_bounded (seqAdvance_bounded (homingSeek_bounded
      ((zReach_keeps z s).bounded rfl rfl h))))
  case zTimeout => exact wrapUp_bounded (zTimedOut_bounded h)
  case driveReadyInactive a =>
    refine wrapUp_bounded ?_
    split
    · exact raiseFault_bounded _ _ (h.of_reads rfl rfl rfl id)
    · exact h.of_reads rfl rfl rfl id
  case driveReadyActive a => exact h.of_reads rfl rfl rfl id
  case settleTimerExpiry => exact kick_bounded (settleExpiry_bounded h)
  case leadTimerExpiry => exact kick_bounded (leadExpiry_bounded h)
  case dwellTimerExpiry => exact kick_bounded (dwellExpiry_bounded h)
  case valveSwitchActive => exact kick_bounded (switchActive_bounded h)
  case valveSwitchInactive => exact kick_bounded (switchInactive_bounded h)
  case valveTimerExpiry => exact kick_bounded (valveTimedOut_bounded h)
  case abrasivePulse => split <;> exact h.of_reads rfl rfl rfl id
  case abrasiveWindowExpiry => exact kick_bounded (windowExpiry_bounded h)
  case pumpRunningActive =>
    split
    · next hstarting =>
      refine pumpDone_bounded (startEnds_bounded h.configured (h.not_barred ?_))
      exact fun g => PumpState.noConfusion (g.symm.trans hstarting)
    · exact h.of_reads rfl rfl rfl id
  case pumpRunningInactive =>
    split
    · next hon =>
      refine pumpDone_bounded (runningLost_bounded (h.of_reads rfl rfl rfl id) ?_)
      have hon' : s.pump.state = .ramping ∨ s.pump.state = .steady := hon
      rcases hon' with g | g <;> simp [g]
    · exact h.of_reads rfl rfl rfl id
  case startTimerExpiry => exact startExpiry_bounded h
  case transducerReading mpa => exact takeReading_bounded (h.of_reads rfl rfl rfl id)
  case rampTimerExpiry => exact rampExpiry_bounded h
  case bandTimerExpiry => exact bandExpiry_bounded h
  case standbyTimerExpiry => exact standbyExpiry_bounded h
  case offTimerExpiry => exact offExpiry_bounded h
  case guardOpen z => exact kick_bounded (done_bounded (guardOpens_bounded z h))
  case guardClosed z => exact kick_bounded (done_bounded (guardCloses_bounded z h))
  case minuteEvent => exact kick_bounded (minuteReached_bounded h)

end Sys2Proof.Machine
end

section
/-! PROOFS. O7, a part without a Configure record (R5, R145): requests are barred there and its pump is stopped, so
every command leaves it stopped or puts a record in force; and the statement, from both parts. -/

namespace Sys2Proof.Machine

open Sys2Proof

/-! ## A part without a Configure record (R5, R145) -/

/-- The pump is OFF at code 0. -/
def PumpStopped (p : Pump) : Prop := p.state = .off ∧ p.code = 0

/-- What a part without a Configure record is in: requests are barred, the pump is stopped, no sequence is recorded and
no reference run goes on (R5, R20, R122). -/
structure Unpowered (s : State) : Prop where
  config : s.config = none
  barred : Barred s
  stopped : PumpStopped s.pump
  seq : s.jet.seq = none
  homing : ∀ h, s.axis.homing = some h → h.ending = true

theorem unpowered_of_sound {s : State} (hj : JobSound s) (hp : PumpSound s) (hc : s.config = none) : Unpowered s where
  config := hc
  barred := hj.configured hc
  stopped := ⟨hp.unconfigured (.inr hc), hp.stopped (.inl (hp.unconfigured (.inr hc)))⟩
  seq := by
    by_contra hne
    obtain ⟨hrun, -⟩ := hj.sequence (Option.isSome_iff_ne_none.mpr hne)
    rcases hj.configured hc with h | h <;> rw [h] at hrun <;> cases hrun
  homing h hh := by
    by_contra hne
    have hstate := hj.running h hh (by simpa using hne)
    rcases hj.configured hc with g | g <;> rw [g] at hstate <;> cases hstate

/-- A stopped pump is sound under every record and in every state. -/
theorem PumpStopped.sound {s : State} (h : PumpStopped s.pump) : PumpSound s where
  ceiling _ _ := h.2.trans_le (Nat.zero_le _)
  stopped _ := h.2
  unconfigured _ := h.1
  trip _ := h.1

theorem PumpBounded.sound {s : State} (h : PumpBounded s) : PumpSound s where
  ceiling c hc := by
    have hceiling := h.fits.ceiling
    simp only [State.cfg, hc, Option.getD_some] at hceiling
    exact hceiling
  stopped := h.fits.stopped
  unconfigured g := g.elim (fun hu => h.barred (.inl hu)) (fun hn => by simpa [hn] using h.configured)
  trip hu := h.barred (.inr hu)

/-- Soundness is read from the record in force, the pump and the controller state. -/
theorem PumpSound.of_reads {s t : State} (h : PumpSound s) (hc : t.config = s.config) (hp : t.pump = s.pump)
    (hj : t.job.state = s.job.state) : PumpSound t where
  ceiling := by rw [hc, hp]; exact h.ceiling
  stopped := by rw [hp]; exact h.stopped
  unconfigured := by rw [hc, hp, hj]; exact h.unconfigured
  trip := by rw [hp, hj]; exact h.trip

theorem PumpSound.bounded {s : State} (h : PumpSound s) (hc : s.config.isSome = true) : PumpBounded s where
  configured := hc
  fits := by
    obtain ⟨c, hc⟩ := Option.isSome_iff_exists.mp hc
    refine ⟨?_, h.stopped⟩
    simp only [State.cfg, hc, Option.getD_some]
    exact h.ceiling c hc
  barred g := g.elim (fun hu => h.unconfigured (.inl hu)) h.trip

/-! ### What does nothing there -/

theorem arrive_barred {s : State} (h : Barred s) : arrive s = s := by
  unfold arrive
  rcases h with h | h <;> simp [h]

theorem closeWatch_barred {s : State} (h : Barred s) : closeWatch s = s.setPlan { s.plan with closePoint := none } := by
  unfold closeWatch
  rcases h with h | h <;> simp [h]

theorem raiseHold_barred {s : State} (h : Barred s) (r : HoldReason) (z : Option Zone) (w : HoldWay) :
    raiseHold r z w s = s := by
  unfold raiseHold
  rcases h with h | h <;> simp [h]

theorem replan_barred {s : State} (h : Barred s) : (replan s).pump = s.pump := by
  have hcore : Barred (planCore s) := by simpa [Barred, (planCore_keeps s).job rfl] using h
  have hrun : ¬ s.job.state = .run := by rcases h with h | h <;> simp [h]
  simp [replan, hrun, closeWatch_barred hcore, (planCore_keeps s).pump rfl]

theorem levelRequest_barred {s : State} (r : LevelReq) (h : Barred s) (hoff : s.pump.state = .off) :
    levelRequest r s = s := by
  unfold levelRequest
  unfold Barred at h
  rw [if_pos hoff, if_pos h, ite_self]

theorem seqAdvance_unsequenced {s : State} (hseq : s.jet.seq = none) (hoff : s.pump.state = .off) :
    seqAdvance s = s := by
  unfold seqAdvance
  cases s.jet.state
  case preparing => simp [checkPreparing, hseq]
  case ramping => simp [checkRamping, pumpStands, hoff]
  all_goals rfl

theorem done_pump (s : State) : (done s).pump = s.pump := (done_keeps s).pump rfl

theorem wrapUp_pump (s : State) : (wrapUp s).pump = s.pump := (lampDerive_keeps s).pump rfl

/-! ### What leaves the pump OFF -/

theorem raiseFault_stopped {s : State} (k : FaultKind) (detail : Nat) (hb : Barred s) (h : PumpStopped s.pump) :
    PumpStopped (raiseFault k detail s).pump := by
  unfold raiseFault
  rcases hb with hb | hb <;> rw [hb]
  · exact h
  · exact (countSecondary_keeps s).pump rfl ▸ h

theorem enterTrip_stopped (k : FaultKind) (detail : Nat) (s : State) : PumpStopped (enterTrip k detail s).pump := by
  unfold enterTrip
  extract_lets s1 s2 s3 s4
  have h3 : s3.pump = stoppedPump s2.pump := pumpStop_pump s2
  rw [(setFault_keeps ..).pump rfl, State.setAxis_pump, State.setJob_pump, h3]
  exact ⟨rfl, rfl⟩

theorem raiseTrip_stopped {s : State} (k : FaultKind) (detail : Nat) (h : PumpStopped s.pump) :
    PumpStopped (raiseTrip k detail s).pump := by
  unfold raiseTrip
  split
  · exact (countSecondary_keeps s).pump rfl ▸ h
  · exact enterTrip_stopped k detail s

theorem tripsAfterReset_stopped {s : State} (h : PumpStopped s.pump) : PumpStopped (tripsAfterReset s).pump := by
  unfold tripsAfterReset
  generalize activeTrips s.lines = ks
  induction ks generalizing s with
  | nil => exact h
  | cons k ks ih => exact ih (raiseTrip_stopped k 0 h)

theorem orderStandby_stopped {s : State} (h : PumpStopped s.pump) : PumpStopped (orderStandby s).pump := by
  obtain ⟨hoff, hcode⟩ := h
  simp [orderStandby, PumpStopped, hoff, hcode]

theorem endSequence_stopped {s : State} (h : PumpStopped s.pump) : PumpStopped (endSequence s).pump := by
  unfold endSequence
  split <;> exact h

theorem warmJet_stopped {s : State} (h : PumpStopped s.pump) : PumpStopped (warmJet s).pump := by
  unfold warmJet
  extract_lets j s1
  have h1 : PumpStopped s1.pump := by
    rw [(clearJetRecords_keeps _).pump rfl]
    refine endSequence_stopped ?_
    exact h
  split <;> exact h1

theorem warmReset_stopped {s : State} (h : PumpStopped s.pump) : PumpStopped (warmReset s).pump := by
  unfold warmReset
  extract_lets s1 s2
  have h1 : PumpStopped s1.pump := by
    refine warmJet_stopped ?_
    rw [(warmJob_keeps _).pump rfl, (flush_keeps _).pump rfl, (warmAxis_keeps s).pump rfl]
    exact h
  have k : Keeps [.zone, .plan, .axis] (warmPump s1) s2 :=
    (lampDerive_keeps _).comp rfl ((deriveClosed_keeps _).comp rfl ((planCore_keeps _).comp rfl
      ((warmZ_keeps _).comp rfl (Keeps.refl _ _))))
  rw [State.setLink_pump, k.pump rfl]
  exact orderStandby_stopped h1

theorem powerOn_stopped (s : State) : PumpStopped (powerOn s).pump := tripsAfterReset_stopped ⟨rfl, rfl⟩

/-! ### Requests -/

/-- No request but a Configure that is accepted starts the pump: Table 1-3 refuses most, and a warm reset leaves a
stopped pump stopped (R153). -/
theorem answerOf_stopped {s : State} {r : Request} (hr : ∀ c, r ≠ .configure c) (h : Unpowered s) :
    PumpStopped (answerOf r s).state.pump := by
  have hstopped := h.stopped
  cases r
  case configure c => exact absurd rfl (hr c)
  case restart =>
    dsimp only [answerOf, answerRestart]
    split
    · exact hstopped
    · exact warmReset_stopped hstopped
  case query => exact hstopped
  case override percent =>
    rcases h.barred with g | g <;> simp [answerOf, answerOverride, takeOverride, okAnswer, g, hstopped]
  all_goals
    rcases h.barred with g | g <;>
      simp [answerOf, answerMaterial, tablesTaken, answerNozzle, nozzleTaken, answerTemplate, answerSegment, queueTaken,
        answerPlace, answerRun, answerHold, answerResume, answerStop, answerClear, answerReference, answerPressure,
        pressureTaken, refuse, g, hstopped]

theorem answerOf_sound {s : State} (r : Request) (h : Unpowered s) : PumpSound (answerOf r s).state := by
  by_cases hr : ∀ c, r ≠ .configure c
  · exact (answerOf_stopped hr h).sound
  · obtain ⟨c, rfl⟩ := not_forall_not.mp hr
    obtain e | hb := answerConfigure_cases (s := s) c (fun _ => h.stopped.2) (fun _ => h.stopped.1)
    · change PumpSound (answerConfigure c s).state
      rw [e]
      exact h.stopped.sound
    · exact hb.sound

theorem deliver_sound {a : Answer} (tag : Byte) (kind : Nat) (h : PumpSound a.state) :
    PumpSound (deliver tag kind a) := by
  rw [deliver_eq]
  exact h.of_reads rfl rfl rfl

theorem serve_sound {s : State} (tag : Byte) (kind : Nat) (r : Request) (h : Unpowered s) :
    PumpSound (serve tag kind (answerOf r) s) := by
  unfold serve
  split
  · exact (deliver_sound tag kind (answerOf_sound r h)).of_reads rfl rfl rfl
  · exact h.stopped.sound.of_reads rfl rfl rfl

theorem warmReset_config (s : State) : (warmReset s).config = s.config := by
  unfold warmReset
  extract_lets s1 s2
  have k : Keeps [.axis, .queue, .plan, .job, .jet, .pump, .zone] s s2 :=
    (lampDerive_keeps _).comp rfl ((deriveClosed_keeps _).comp rfl ((planCore_keeps _).comp rfl
      ((warmZ_keeps _).comp rfl ((warmPump_keeps _).comp rfl ((warmJet_keeps _).comp rfl ((warmJob_keeps _).comp rfl
        ((flush_keeps _).comp rfl ((warmAxis_keeps s).comp rfl (Keeps.refl _ _)))))))))
  exact k.config

/-- Without a record the drive check does nothing (R114). -/
theorem driveCheck_unconfigured {s : State} (hc : s.config = none) : driveCheck s = s := by
  simp [driveCheck, State.configured, hc]

theorem afterWarmReset_stopped {s : State} (hc : s.config = none) (h : PumpStopped s.pump) :
    PumpStopped (afterWarmReset s).pump := by
  unfold afterWarmReset
  rw [driveCheck_unconfigured hc, (lampDerive_keeps _).pump rfl]
  exact tripsAfterReset_stopped h

theorem restartWithRoom_stopped {s : State} (tag : Byte) (h : Unpowered s) :
    PumpStopped (restartWithRoom tag s).pump := by
  have ha : (answerRestart s).state.config = none := by
    unfold answerRestart
    split
    · exact h.config
    · exact (warmReset_config s).trans h.config
  have hstopped : PumpStopped (answerRestart s).state.pump := answerOf_stopped (r := .restart) (fun _ => nofun) h
  unfold restartWithRoom
  extract_lets a s1
  have h1 : s1.config = none ∧ PumpStopped s1.pump := by
    unfold s1
    rw [deliver_eq]
    exact ⟨ha, hstopped⟩
  split
  · exact afterWarmReset_stopped h1.1 h1.2
  · exact h1.2

theorem frameDone_sound {s : State} (kind : Nat) (tag : Byte) (payload : List Byte) (h : Unpowered s) :
    PumpSound (frameDone kind tag payload s) := by
  unfold frameDone
  repeat' split
  · exact deliver_sound tag kind h.stopped.sound
  · exact (restartWithRoom_stopped tag h).sound
  · exact deliver_sound tag kind (answerOf_sound _ h)
  · exact deliver_sound tag kind h.stopped.sound
  · exact deliver_sound tag kind h.stopped.sound
  · exact h.stopped.sound.of_reads rfl rfl rfl

theorem takeByte_sound {s : State} (b : Byte) (h : Unpowered s) : PumpSound (takeByte b s) := by
  obtain ⟨l, e⟩ | ⟨kind, tag, payload, e⟩ := takeByte_cases b s <;> rw [e]
  · exact h.stopped.sound.of_reads rfl rfl rfl
  · exact frameDone_sound kind tag payload ⟨h.config, h.barred, h.stopped, h.seq, h.homing⟩

/-! ### Events -/

/-- The head does not move, and the period ends as it stands (R103, R112). -/
theorem period_stopped {s : State} (fb : Point) (homeX homeY : Bool) (h : Unpowered s) :
    PumpStopped (period fb homeX homeY s).pump := by
  have hmotion : motion (sample fb homeX homeY s)
      = (sample fb homeX homeY s).setAxis { (sample fb homeX homeY s).axis with speed := 0 } := by
    have hc : (sample fb homeX homeY s).config = none := h.config
    simp [motion, State.configured, hc]
  unfold period
  rw [hmotion]
  generalize hu : (sample fb homeX homeY s).setAxis _ = u
  have hc : u.config = none := by rw [← hu]; exact h.config
  have hb : Barred u := by rw [← hu]; exact h.barred
  have hfollow : followCheck u = u := by simp [followCheck, State.configured, hc]
  rw [hfollow, closeWatch_barred hb, arrive_barred (s := u.setPlan { u.plan with closePoint := none }) hb,
    (settle_keeps _).pump rfl, ← hu]
  exact h.stopped

theorem homingTimedOut_stopped {s : State} (h : Unpowered s) : PumpStopped (homingTimedOut s).pump := by
  unfold homingTimedOut
  repeat' split
  · exact h.stopped
  · exact h.stopped
  · exact raiseFault_stopped _ _ h.barred h.stopped

/-- No reference run goes on, so none is begun at the height (R115, R117). -/
theorem homingSeek_ended {s : State} (h : ∀ g, s.axis.homing = some g → g.ending = true) : homingSeek s = s := by
  unfold homingSeek
  split
  · next g hg => simp [h g hg]
  · rfl

theorem zReach_homing (z : Option ZPos) (s : State) : (zReach z s).axis.homing = s.axis.homing := by
  unfold zReach
  dsimp only
  repeat' split
  all_goals rfl

theorem zReachedChange_stopped {s : State} (z : Option ZPos) (h : Unpowered s) :
    PumpStopped (settle (seqAdvance (homingSeek (zReach z s)))).pump := by
  have k := zReach_keeps z s
  rw [homingSeek_ended (by rw [zReach_homing]; exact h.homing),
    seqAdvance_unsequenced (by rw [k.jet rfl, h.seq]) (by rw [k.pump rfl, h.stopped.1]), (settle_keeps _).pump rfl,
    k.pump rfl]
  exact h.stopped

theorem zTimedOut_stopped {s : State} (h : Unpowered s) : PumpStopped (zTimedOut s).pump := by
  unfold zTimedOut
  dsimp only
  repeat' split
  · exact h.stopped
  · exact h.stopped
  · exact raiseFault_stopped _ _ h.barred h.stopped

/-- A sequence that nothing records is not gone on with (R122). -/
theorem enterPreparing_unsequenced {s : State} (h : s.jet.seq = none) : enterPreparing s = s := by
  simp [enterPreparing, h]

theorem switchActive_stopped {s : State} (h : Unpowered s) : PumpStopped (switchActive s).pump := by
  have hrun : s.job.state ≠ .run := by rcases h.barred with g | g <;> simp [g]
  have hrecovery : recoveryAtSwitch (shutBySwitch s) = shutBySwitch s := if_neg (fun g => hrun g.1)
  unfold switchActive
  dsimp only
  split
  · rw [done_pump]
    change PumpStopped (enterPreparing (pumpValveClosed (wearTold false (recoveryAtSwitch (shutBySwitch s))))).pump
    rw [hrecovery, enterPreparing_unsequenced (show (pumpValveClosed (wearTold false (shutBySwitch s))).jet.seq = none
      from h.seq)]
    exact h.stopped
  · exact h.stopped

theorem switchInactive_stopped {s : State} (h : Unpowered s) : PumpStopped (switchInactive s).pump := by
  unfold switchInactive
  dsimp only
  split <;> exact h.stopped

theorem valveTimedOut_stopped {s : State} (h : Unpowered s) : PumpStopped (valveTimedOut s).pump := by
  have hcondition (started : CtrlState) :
      PumpStopped (valveCondition started (s.setJet { s.jet with valveTimer := none })).pump := by
    unfold valveCondition
    rcases h.barred with g | g <;> rw [State.setJet_job, g]
    · exact h.stopped
    · exact raiseTrip_stopped _ _ h.stopped
  unfold valveTimedOut
  split
  · rw [done_pump]
    exact hcondition _
  · exact h.stopped

theorem windowExpiry_stopped {s : State} (h : Unpowered s) : PumpStopped (windowExpiry s).pump := by
  unfold windowExpiry
  split
  · rw [done_pump]
    unfold abrasiveLoss
    split
    · exact raiseFault_stopped _ _ h.barred h.stopped
    · rw [raiseHold_barred (s := s.setJet (disarm s.jet)) h.barred]
      exact h.stopped
  · exact h.stopped

/-- What a ladder timer asks for is not taken (R145, R150, R151). -/
theorem pumpDone_request_stopped {s : State} (r : LevelReq) (p : Pump) (hp : PumpStopped p) (h : Unpowered s) :
    PumpStopped (pumpDone (levelRequest r (s.setPump p))).pump := by
  rw [levelRequest_barred (s := s.setPump p) r h.barred hp.1]
  unfold pumpDone
  rw [seqAdvance_unsequenced (s := s.setPump p) h.seq hp.1, wrapUp_pump, (settle_keeps _).pump rfl]
  exact hp

theorem standbyExpiry_stopped {s : State} (h : Unpowered s) : PumpStopped (standbyExpiry s).pump := by
  unfold standbyExpiry
  split
  · exact pumpDone_request_stopped _ _ h.stopped h
  · exact h.stopped

theorem offExpiry_stopped {s : State} (h : Unpowered s) : PumpStopped (offExpiry s).pump := by
  unfold offExpiry
  split
  · exact pumpDone_request_stopped _ _ h.stopped h
  · exact h.stopped

theorem guardOpens_stopped {s : State} (z : Zone) (h : Unpowered s) : PumpStopped (guardOpens z s).pump := by
  unfold guardOpens
  extract_lets s1
  have hb : Barred s1 := h.barred
  split
  · rcases hb with hb | hb <;> rw [hb] <;> exact h.stopped
  · exact h.stopped

theorem guardCloses_stopped {s : State} (z : Zone) (h : Unpowered s) : PumpStopped (guardCloses z s).pump := by
  unfold guardCloses
  extract_lets s1
  have hb : Barred s1 := h.barred
  split
  · exact h.stopped
  · have hwait : s1.inRun .zoneWait = false := by rcases hb with hb | hb <;> simp [State.inRun, hb]
    rw [if_neg (by simp [hwait]), replan_barred hb]
    exact h.stopped

theorem minuteReached_stopped {s : State} (h : Unpowered s) : PumpStopped (minuteReached s).pump := by
  unfold minuteReached
  repeat' split
  · rw [(minuteRise_keeps ..).pump rfl]
    exact h.stopped
  all_goals exact h.stopped

/-! ### Every command -/

/-- A command leaves the pump of such a part stopped, unless it is a Configure that is accepted. -/
theorem exec_sound_unpowered {c : Instr} {s t : State} (h : Unpowered s) (e : exec c s = .next t) : PumpSound t := by
  have hstopped := h.stopped
  have hoff := hstopped.1
  have ends {u : State} (g : PumpStopped u.pump) : PumpSound (wrapUp u) :=
    PumpStopped.sound (by rw [wrapUp_pump]; exact g)
  cases c <;> cases e
  case configure tag r => exact serve_sound tag 0x01 (.configure r) h
  case material tag r => exact serve_sound tag 0x02 (.material r) h
  case nozzle tag r => exact serve_sound tag 0x03 (.nozzle r) h
  case template tag r => exact serve_sound tag 0x04 (.template r) h
  case segment tag r => exact serve_sound tag 0x05 (.segment r) h
  case place tag r => exact serve_sound tag 0x06 (.place r) h
  case run tag => exact serve_sound tag 0x07 .run h
  case hold tag => exact serve_sound tag 0x08 .hold h
  case resume tag => exact serve_sound tag 0x09 .resume h
  case stop tag => exact serve_sound tag 0x0A .stop h
  case clear tag => exact serve_sound tag 0x0B .clear h
  case reference tag => exact serve_sound tag 0x0C .reference h
  case pressure tag level slot => exact serve_sound tag 0x0D (.pressure level slot) h
  case override tag percent => exact serve_sound tag 0x0E (.override percent) h
  case query tag => exact serve_sound tag 0x0F .query h
  case restart tag =>
    refine PumpSound.of_reads (s := if s.hasRoom then restartWithRoom tag s else discardFrame s) ?_ rfl rfl rfl
    split
    · exact (restartWithRoom_stopped tag h).sound
    · exact hstopped.sound.of_reads rfl rfl rfl
  case receivedByte b => exact (takeByte_sound b h).of_reads rfl rfl rfl
  case interpolationPeriod fbX fbY homeX homeY => exact ends (period_stopped _ _ _ h)
  case tripInputActive k => exact ends (raiseTrip_stopped _ _ hstopped)
  case homingTimeout => exact ends (homingTimedOut_stopped h)
  case zReachedChange z => exact ends (zReachedChange_stopped z h)
  case zTimeout => exact ends (zTimedOut_stopped h)
  case driveReadyInactive a =>
    refine ends ?_
    rw [if_neg (by simp [State.configured, h.config])]
    exact hstopped
  all_goals refine PumpStopped.sound ?_
  case gapTimerExpiry => unfold gapExpiry; split <;> exact hstopped
  case powerOnReset => exact powerOn_stopped s
  case settleTimerExpiry => simpa [settleExpiry, State.stageTimer, h.seq] using hstopped
  case leadTimerExpiry => simpa [leadExpiry, State.stageTimer, h.seq] using hstopped
  case dwellTimerExpiry => simpa [dwellExpiry, State.stageTimer, h.seq] using hstopped
  case valveSwitchActive => exact switchActive_stopped h
  case valveSwitchInactive => exact switchInactive_stopped h
  case valveTimerExpiry => exact valveTimedOut_stopped h
  case abrasivePulse => split <;> exact hstopped
  case abrasiveWindowExpiry => exact windowExpiry_stopped h
  case pumpRunningActive => rw [if_neg (by simp [hoff])]; exact hstopped
  case pumpRunningInactive => rw [if_neg (by simp [hoff])]; exact hstopped
  case startTimerExpiry => simpa [startExpiry, hoff] using hstopped
  case transducerReading mpa => simpa [takeReading, hoff, PumpStopped] using hstopped
  case rampTimerExpiry => simpa [rampExpiry, hoff] using hstopped
  case bandTimerExpiry => simpa [bandExpiry, hoff] using hstopped
  case standbyTimerExpiry => exact standbyExpiry_stopped h
  case offTimerExpiry => exact offExpiry_stopped h
  case guardOpen z => exact (done_pump (guardOpens z s)).symm ▸ guardOpens_stopped z h
  case guardClosed z => exact (done_pump (guardCloses z s)).symm ▸ guardCloses_stopped z h
  case minuteEvent => exact minuteReached_stopped h
  all_goals exact hstopped

/-! ## O7 -/

theorem exec_pumpSound {c : Instr} {s t : State} (hj : JobSound s) (hp : PumpSound s) (e : exec c s = .next t) :
    PumpSound t := by
  cases hc : s.config with
  | none => exact exec_sound_unpowered (unpowered_of_sound hj hp hc) e
  | some r =>
    by_cases hreset : c = .powerOnReset
    · subst hreset
      cases e
      exact (powerOn_stopped s).sound
    · exact (exec_bounded (hp.bounded (by simp [hc])) hreset e).sound

/-- Settles O7: with a Configure record in force every operation keeps the code within its bounds, and without one only
a Configure that is accepted lets the pump run; the part's own time leaves state and code alone. -/
theorem pumpDemandKept : Obligations.PumpDemandKept := by
  intro s t hj hp e
  unfold step at e
  split at e
  · next c rest _ => exact exec_pumpSound (s := s.setPending rest) { hj with } { hp with } e
  · unfold idleStep at e
    split at e
    · exact exec_pumpSound hj hp e
    · cases e
      obtain ⟨hjob, hconfig, hstate, hcode⟩ := tick_reads s
      exact ⟨by rw [hconfig, hcode]; exact hp.ceiling, by rw [hstate, hcode]; exact hp.stopped,
        by rw [hjob, hconfig, hstate]; exact hp.unconfigured, by rw [hjob, hstate]; exact hp.trip⟩

end Sys2Proof.Machine
end

section
/-! PROOFS. O42, PRESSURE (R152): what the level request it makes leaves of the pump, by the pump state (Table 8-5), and
its answers. -/

namespace Sys2Proof.Machine

open Sys2Proof

/-! ## Level requests by the pump state (R145 to R147, Table 8-5) -/

/-- The state on which a request other than OFF acts: the ladder timers have stopped (R145). -/
def laddersStopped (s : State) : State := s.setPump { s.pump with standbyTimer := none, offTimer := none }

theorem levelRequest_taken {r : LevelReq} {s : State} (hr : r.level ≠ .off) (hfree : ¬ Barred s) :
    levelRequest r s = ladder (requestLevel r (laddersStopped s)) := by
  unfold Barred at hfree
  rw [levelRequest, if_neg hr, if_neg hfree]
  rfl

/-- OFF stops a pump that is not OFF at once. -/
theorem levelRequest_stops {s : State} (p : Nat) (h : s.pump.state ≠ .off) : levelRequest ⟨.off, p⟩ s = pumpStop s := by
  simp [levelRequest, h]

section
variable {r : LevelReq} {s : State} (hr : r.level ≠ .off) (hfree : ¬ Barred s)
include hr hfree

theorem levelRequest_off (hoff : s.pump.state = .off) (hrunning : s.lines.pumpRunning = false) :
    (levelRequest r s).pump = startingPump s.cfg r s.pump := by
  have hstart : requestLevel r (laddersStopped s) = enterStarting r (laddersStopped s) := by
    simp [requestLevel, laddersStopped, hoff]
  have hpump := enterStarting_waits (target := r) (s := laddersStopped s) hrunning
  rw [levelRequest_taken hr hfree, hstart, ladder_pump_of_not_steady (by simp [hpump, startingPump]), hpump]
  rfl

theorem levelRequest_latches (hstate : s.pump.state = .starting ∨ s.pump.state = .ramping) :
    (levelRequest r s).pump = { s.pump with latch := some r, standbyTimer := none, offTimer := none } := by
  have hlatch : requestLevel r (laddersStopped s)
      = (laddersStopped s).setPump { (laddersStopped s).pump with latch := some r } := by
    rcases hstate with h | h <;> simp [requestLevel, laddersStopped, h]
  rw [levelRequest_taken hr hfree, hlatch,
    ladder_pump_of_not_steady (by rcases hstate with h | h <;> simp [laddersStopped, h])]
  rfl

theorem levelRequest_sameCode (hsteady : s.pump.state = .steady) (hcode : requestCode s.cfg r = s.pump.code) :
    (levelRequest r s).pump.state = .steady ∧ (levelRequest r s).pump.target = r
    ∧ (levelRequest r s).pump.current = r.level ∧ (levelRequest r s).pump.code = s.pump.code := by
  have hcode' : requestCode (laddersStopped s).cfg r = (laddersStopped s).pump.code := hcode
  have hput : requestLevel r (laddersStopped s)
      = pumpPut { (laddersStopped s).pump with target := r, current := r.level } (laddersStopped s) := by
    have hsteady' : (laddersStopped s).pump.state = .steady := hsteady
    simp [requestLevel, hsteady', hcode']
  rw [levelRequest_taken hr hfree, hput]
  simp [ladder, laddersStopped, hsteady]

theorem levelRequest_ramps (hsteady : s.pump.state = .steady) (hcode : requestCode s.cfg r ≠ s.pump.code)
    (hread : ¬ ReadingWithin s (requestCode s.cfg r)) :
    (levelRequest r s).pump = rampingPump s.cfg (requestCode s.cfg r) { s.pump with target := r } := by
  have hramp : requestLevel r (laddersStopped s)
      = startRamp (requestCode s.cfg r) { (laddersStopped s).pump with target := r } (laddersStopped s) := by
    have hsteady' : (laddersStopped s).pump.state = .steady := hsteady
    have hcode' : requestCode (laddersStopped s).cfg r ≠ (laddersStopped s).pump.code := hcode
    simp only [requestLevel, hsteady', if_neg hcode']
    exact enterRamping_ramps rfl hread
  rw [levelRequest_taken hr hfree, hramp, ladder_pump_of_not_steady (by simp [startRamp_pump, rampingPump]),
    startRamp_pump]
  rfl

end

/-! ## PRESSURE (R152) -/

theorem Keeps.eq_of_pump {s t : State} (k : Keeps [.pump] s t) : t = { s with pump := t.pump, link := t.link } := by
  obtain ⟨job, queue, plan, axis, jet, -, zone, wear, lines, config, tables, freeCount, pending, -⟩ := k
  cases t
  simp_all

theorem pressureTaken_of {s : State} (h : s.job.state = .idle ∨ (s.job.state = .hold ∧ s.job.sub = some .held))
    (level : Nat) : pressureTaken s.job level = true := by
  rcases h with h | ⟨h, hsub⟩ <;> simp [pressureTaken, *]

/-- A Pressure whose request is taken: one reply with the code, and besides it the pump alone changes. -/
theorem exec_pressure_taken {tag : Byte} {level slot : Nat} {s : State} {q : LevelReq} (hroom : s.hasRoom = true)
    (ht : pressureTaken s.job level = true) (hq : pressureLevel s level slot = .ok q) :
    ∃ t posted, exec (.pressure tag level slot) s = .next t
      ∧ Replied s t tag 0x0D .ok (some (levelCode s.cfg q)) false posted
      ∧ t = { s with pump := t.pump, link := t.link } ∧ t.pump = (levelRequest q s).pump := by
  have ha : answerPressure level slot s = okAnswer (some (levelCode s.cfg q)) (levelRequest q s) := by
    simp only [answerPressure, ht, if_true, hq, levelCode_eq]
  have k := levelRequest_keeps q s
  obtain ⟨posted, hposts⟩ := k.posts
  have hserve := serve_ok_eq hroom tag 0x0D _ _ ha
  generalize hu : levelRequest q s = u at *
  refine ⟨_, posted, rfl, replied_of_ok hroom tag 0x0D _ _ ha k.freeCount hposts, ?_, by rw [hserve]⟩
  rw [hserve, k.eq_of_pump]
  rfl

theorem exec_pressure_refused {tag : Byte} {level slot : Nat} {s : State} {code : ResultCode} {detail : Nat}
    (hroom : s.hasRoom = true) (ht : pressureTaken s.job level = true)
    (hq : pressureLevel s level slot = .error (code, detail)) :
    ∃ t, exec (.pressure tag level slot) s = .next t ∧ Refused s t tag 0x0D code (some detail) :=
  ⟨_, rfl, refused_of_refuse hroom tag 0x0D code (some detail) _ (by simp only [answerPressure, ht, if_true, hq])⟩

/-- Settles O42: the answer is a refusal by the level byte and the slot, or the level request of R145. -/
theorem pressureActsByThePumpState : Obligations.PressureActsByThePumpState := by
  intro tag level slot s hroom hstate
  have ht := pressureTaken_of hstate level
  have hfree : ¬ Barred s := by rcases hstate with h | ⟨h, -⟩ <;> simp [Barred, h]
  refine ⟨fun hlevel => ?_, fun hlevel hslot => ?_, fun hlevel hon => ?_, fun q hq => ?_⟩
  · refine exec_pressure_refused hroom ht ?_
    match level, hlevel with
    | n + 3, _ => rfl
  · subst hlevel
    exact exec_pressure_refused hroom ht (by simp [pressureLevel, hslot])
  · subst hlevel
    obtain ⟨t, posted, hexec, hreply, hends, hpump⟩ :=
      exec_pressure_taken (tag := tag) (slot := slot) (q := ⟨.off, 0⟩) hroom ht rfl
    rw [levelRequest_stops 0 hon, pumpStop_pump] at hpump
    refine ⟨t, posted, hexec, hreply, hends, ?_⟩
    simp [hpump, stoppedPump]
  · have hq' : q.level ≠ .off ∧ pressureLevel s level slot = .ok q := by
      obtain ⟨rfl, rfl⟩ | ⟨rfl, m, hm, rfl⟩ := hq
      · exact ⟨nofun, rfl⟩
      · exact ⟨nofun, by simp [pressureLevel, hm]⟩
    obtain ⟨hr, hlevel⟩ := hq'
    obtain ⟨t, posted, hexec, hreply, hends, hpump⟩ := exec_pressure_taken (tag := tag) hroom ht hlevel
    refine ⟨t, posted, hexec, hreply, hends, fun hoff hrunning => ?_, fun hlatch => ?_, fun hsteady hcode => ?_,
      fun hsteady hcode hread => ?_⟩ <;> rw [hpump]
    · rw [levelRequest_off hr hfree hoff hrunning]
      exact ⟨rfl, rfl, rfl, rfl⟩
    · exact levelRequest_latches hr hfree hlatch
    · rw [levelCode_eq] at hcode
      exact levelRequest_sameCode hr hfree hsteady hcode
    · rw [levelCode_eq] at hcode hread ⊢
      rw [levelRequest_ramps hr hfree hsteady hcode hread]
      exact ⟨rfl, rfl, rfl, rfl, rfl⟩

end Sys2Proof.Machine
end

section
/-! PROOFS. O56, and events at the pump while no sequence waits for it (R146 to R151): the command then ends with what
the pump's own operation, or the fault it raises, has left. -/

namespace Sys2Proof.Machine

open Sys2Proof

/-! ## Events while no sequence waits for the pump -/

/-- IDLE with the jet CLOSED or CLOSING, or RUN with the jet OPEN: no sequence waits for the pump, and the pump brings
about nothing that would settle. -/
def NoneWaits (s : State) : Prop :=
  (s.job.state = .idle ∧ (s.jet.state = .closed ∨ s.jet.state = .closing))
  ∨ (s.job.state = .run ∧ s.jet.state = .opened)

theorem seqAdvance_unstaged {s : State} (h : s.jet.state = .closed ∨ s.jet.state = .closing ∨ s.jet.state = .opened) :
    seqAdvance s = s := by
  unfold seqAdvance
  rcases h with h | h | h <;> rw [h]

theorem NoneWaits.jet {s : State} (h : NoneWaits s) :
    s.jet.state = .closed ∨ s.jet.state = .closing ∨ s.jet.state = .opened := by
  obtain ⟨-, h | h⟩ | ⟨-, h⟩ := h <;> simp [h]

theorem NoneWaits.not_barred {s : State} (h : NoneWaits s) : ¬ Barred s := by
  obtain ⟨h, -⟩ | ⟨h, -⟩ := h <;> simp [Barred, h]

theorem NoneWaits.settle {s : State} (h : NoneWaits s) : settle s = s := by
  obtain ⟨hidle, -⟩ | ⟨hrun, hjet⟩ := h
  · exact settle_at_rest (.inl hidle)
  · exact settle_run_eq hrun (.inl (by simp [hjet]))

theorem NoneWaits.of_keeps {s v : State} (h : NoneWaits s) (k : Keeps [.pump, .lines] s v) : NoneWaits v := by
  unfold NoneWaits
  rw [k.job rfl, k.jet rfl]
  exact h

/-- An event that changes the pump and a line ends there, but for the lamps and the link. -/
theorem exec_pump_event {i : Instr} {s v : State} (h : NoneWaits s) (e : exec i s = .next (pumpDone v))
    (k : Keeps [.pump, .lines] s v) : ∃ t posted, exec i s = .next t ∧ t.link = linkAfter s.link posted none
      ∧ t.pump = v.pump ∧ t.job = s.job ∧ t.lines = v.lines
      ∧ t = { s with lines := t.lines, pump := t.pump, zone := withLampsOf t s, link := t.link } := by
  have hv := h.of_keeps k
  have hdone : pumpDone v = wrapUp v := by
    unfold pumpDone
    rw [seqAdvance_unstaged hv.jet, hv.settle]
  obtain ⟨t, posted, ht, hlink, hends⟩ := exec_wrapUp_eq (e.trans (congrArg Host.Outcome.next hdone)) k
  have hpump : t.pump = v.pump := (congrArg State.pump hends :)
  have hlines : t.lines = v.lines := (congrArg State.lines hends :)
  refine ⟨t, posted, ht, hlink, hpump, (congrArg State.job hends :).trans (k.job rfl), hlines, ?_⟩
  have hzone : withLampsOf t v = withLampsOf t s := by simp [withLampsOf, k.zone rfl]
  rw [hpump, hlines, ← hzone]
  refine hends.trans ?_
  obtain ⟨job, queue, plan, axis, jet, -, -, wear, -, config, tables, freeCount, pending, -⟩ := k
  simp only [← job rfl, ← queue rfl, ← plan rfl, ← axis rfl, ← jet rfl, ← wear rfl, ← config, ← tables, ← freeCount,
    ← pending]

/-- A close command leaves the jet CLOSED or CLOSING (R131). -/
theorem closeCommand_shut (s : State) :
    (closeCommand s).jet.state = .closed ∨ (closeCommand s).jet.state = .closing := by
  have hends (u : State) : (endSequence u).jet.state = u.jet.state := by
    unfold endSequence
    split <;> rfl
  unfold closeCommand
  cases hstate : s.jet.state <;> dsimp only
  case closed => exact .inl ((hends _).trans hstate)
  case closing => exact .inr ((hends _).trans hstate)
  all_goals
    split
    · exact .inr rfl
    · exact .inl rfl

theorem enterFault_shut (k : FaultKind) (detail : Nat) (s : State) :
    (enterFault k detail s).jet.state = .closed ∨ (enterFault k detail s).jet.state = .closing := by
  unfold enterFault
  extract_lets s1 s2 s3 s4 s5
  have hjet2 : s2.jet = s1.jet := by
    unfold s2
    split
    · rfl
    · exact (orderStop_keeps ..).jet rfl
  have hjet4 : s4.jet = s3.jet := by
    unfold s4
    split
    · exact (levelRequest_keeps ..).jet rfl
    · exact (orderStandby_keeps _).jet rfl
  have hstate3 : s3.jet.state = s2.jet.state := rfl
  rw [(clearAtRest_keeps _).jet rfl, (setFault_keeps ..).jet rfl, (setJob_keeps ..).jet rfl, hjet4, hstate3, hjet2]
  exact closeCommand_shut _

/-- An event that raises a fault ends with FAULT entered, but for the lamps and the link (R7, R8, R21). -/
theorem exec_pump_fault {i : Instr} {s v : State} {k : FaultKind} {detail : Nat} (h : NoneWaits s)
    (e : exec i s = .next (pumpDone (raiseFault k detail v))) (hk : Keeps [.pump, .lines] s v) :
    ∃ t posted, exec i s = .next t ∧ t.link = linkAfter s.link posted none
      ∧ t.pump = (enterFault k detail v).pump
      ∧ t.job.state = .fault ∧ t.job.residency = some 2000 ∧ t.queue.entries = []
      ∧ t.job.fault = { kind := some k, detail := detail, secondary := 0 } := by
  have hraise : raiseFault k detail v = enterFault k detail v := by
    have hv := h.of_keeps hk
    obtain ⟨hstate, -⟩ | ⟨hstate, -⟩ := hv <;> simp [raiseFault, hstate]
  obtain ⟨hstate, hres, hfault, hqueue⟩ := enterFault_outcome k detail v
  have hdone : pumpDone (raiseFault k detail v) = wrapUp (enterFault k detail v) := by
    unfold pumpDone
    rw [hraise, seqAdvance_unstaged ((enterFault_shut k detail v).imp_right .inl), settle_fault hstate]
  have kf : Keeps [.job, .queue, .plan, .axis, .jet, .pump, .lines] s (enterFault k detail v) :=
    (enterFault_keeps k detail v).comp rfl (hk.comp rfl (Keeps.refl _ _))
  obtain ⟨t, posted, ht, hlink, hends⟩ := exec_wrapUp (e.trans (congrArg Host.Outcome.next hdone)) kf
  refine ⟨t, posted, ht, hlink, hends.pump, ?_⟩
  rw [hends.job, hends.queue]
  exact ⟨hstate, hres, hqueue, hfault⟩

/-! ## The pump stopped with a fault (R146, R147) -/

/-- Neither the pump state nor what is latched depends on the jet that is told to close. -/
theorem closeCommand_pump (s : State) :
    (closeCommand s).pump.state = s.pump.state ∧ (closeCommand s).pump.code = s.pump.code
    ∧ (closeCommand s).pump.latch = s.pump.latch := by
  have hends (u : State) : (endSequence u).pump.state = u.pump.state ∧ (endSequence u).pump.code = u.pump.code
      ∧ (endSequence u).pump.latch = u.pump.latch := by
    unfold endSequence
    split <;> exact ⟨rfl, rfl, rfl⟩
  unfold closeCommand
  cases s.jet.state <;> dsimp only
  case closed | closing => exact hends _
  all_goals split <;> exact hends _

/-- PUMP_START and PUMP_RAMP leave a pump that has been stopped as it was (R7). -/
theorem enterFault_pump_stopped {k : FaultKind} (detail : Nat) (s : State) (hk : k.stopsPump = true) :
    PumpStopped (enterFault k detail (pumpStop s)).pump ∧ (enterFault k detail (pumpStop s)).pump.latch = none := by
  unfold enterFault
  extract_lets s1 s2 s3 s4 s5
  have kdiscard : Keeps [.job] (pumpStop s) (discardHold (setState .fault none (pumpStop s))) :=
    (discardHold_keeps _).comp rfl ((setState_keeps ..).comp rfl (Keeps.refl _ _))
  obtain ⟨hstate, hcode, hlatch⟩ := closeCommand_pump (discardHold (setState .fault none (pumpStop s)))
  rw [kdiscard.pump rfl, pumpStop_pump] at hstate hcode hlatch
  have hpump2 : s2.pump = s1.pump := by
    unfold s2
    split
    · rfl
    · exact (orderStop_keeps ..).pump rfl
  have hpump3 : s3.pump = s1.pump := hpump2
  have hoff : s3.pump.state = .off := by rw [hpump3]; exact hstate
  have h4 : s4 = s3 := by
    unfold s4
    rw [if_pos hk]
    simp [levelRequest, hoff]
  rw [(clearAtRest_keeps _).pump rfl, (setFault_keeps ..).pump rfl, (setJob_keeps ..).pump rfl, h4, hpump3]
  exact ⟨⟨hstate, hcode⟩, hlatch⟩

/-- An event that stops the pump with a fault. -/
theorem exec_pump_stopping_fault {i : Instr} {s : State} {k : FaultKind} {detail : Nat} (h : NoneWaits s)
    (hk : k.stopsPump = true) (e : exec i s = .next (pumpDone (raiseFault k detail (pumpStop s)))) :
    ∃ t, exec i s = .next t ∧ t.pump.state = .off ∧ t.pump.code = 0 ∧ t.pump.latch = none
      ∧ t.job.state = .fault ∧ t.job.residency = some 2000
      ∧ t.job.fault = { kind := some k, detail := detail, secondary := 0 } := by
  obtain ⟨t, -, ht, -, hpump, hstate, hres, -, hfault⟩ :=
    exec_pump_fault h e ((pumpStop_keeps s).comp rfl (Keeps.refl _ _))
  obtain ⟨⟨hoff, hcode⟩, hlatch⟩ := enterFault_pump_stopped detail s hk
  rw [← hpump] at hoff hcode hlatch
  exact ⟨t, ht, hoff, hcode, hlatch, hstate, hres, hfault⟩

/-! ## O56 -/

/-- The request latched since the start, or the target itself where none is, is taken and its ramp begins (R146). -/
theorem startEnds_ramps {s : State} (h : ¬ ReadingWithin s (requestCode s.cfg (s.pump.latch.getD s.pump.target))) :
    startEnds s = startRamp (requestCode s.cfg (s.pump.latch.getD s.pump.target))
      { s.pump with latch := none, target := s.pump.latch.getD s.pump.target } s :=
  rampUnlatched_ramps (p := { s.pump with latch := none, target := s.pump.latch.getD s.pump.target }) rfl h

/-- The running input, found in STARTING by a pump that no sequence waits for (R146). -/
theorem running_starts_ramp {s : State} {q : LevelReq} (h : NoneWaits s) (hstarting : s.pump.state = .starting)
    (hq : q = s.pump.latch.getD s.pump.target) (hread : ¬ ReadingWithin s (requestCode s.cfg q)) :
    ∃ t posted, exec .pumpRunningActive s = .next t ∧ t.link = linkAfter s.link posted none
      ∧ t.pump = rampingPump s.cfg (requestCode s.cfg q) { s.pump with latch := none, target := q }
      ∧ t = { s with
          lines := { s.lines with pumpRunning := true }, pump := t.pump, zone := withLampsOf t s, link := t.link } := by
  subst hq
  have kline := setLines_keeps s { s.lines with pumpRunning := true }
  have kstart := startEnds_keeps (s.setLines { s.lines with pumpRunning := true })
  have hexec : exec .pumpRunningActive s
      = .next (pumpDone (startEnds (s.setLines { s.lines with pumpRunning := true }))) :=
    congrArg Host.Outcome.next (if_pos hstarting)
  obtain ⟨t, posted, ht, hlink, hpump, -, hlines, hends⟩ :=
    exec_pump_event h hexec (kstart.comp rfl (kline.comp rfl (Keeps.refl _ _)))
  rw [kstart.lines rfl] at hlines
  rw [hlines] at hends
  refine ⟨t, posted, ht, hlink, hpump.trans ?_, hends⟩
  rw [startEnds_ramps (s := s.setLines { s.lines with pumpRunning := true }) hread, startRamp_pump]
  rfl

/-- Settles O56: the start ends in a ramp, and the two timers' expiries stop the pump and enter FAULT. -/
theorem pumpStartsRampsOrFaults : Obligations.PumpStartsRampsOrFaults := by
  intro s hidle hjet
  have h : NoneWaits s := .inl ⟨hidle, .inl hjet⟩
  refine ⟨fun hoff => ?_, fun q hstarting hq hread => ?_, fun ms hstarting htimer => ?_, fun ms hramping htimer => ?_⟩
  · exact congrArg Host.Outcome.next (if_neg (by simp [hoff]))
  · rw [levelCode_eq] at hread ⊢
    exact running_starts_ramp h hstarting hq hread
  · refine exec_pump_stopping_fault h rfl (congrArg Host.Outcome.next ?_)
    simp [startExpiry, hstarting, htimer]
  · refine exec_pump_stopping_fault h rfl (congrArg Host.Outcome.next ?_)
    simp [rampExpiry, hramping, htimer]

end Sys2Proof.Machine
end

section
/-! PROOFS. O57, the readings and the watches of a pump that no sequence waits for (R147 to R151, R154). -/

namespace Sys2Proof.Machine

open Sys2Proof

/-! ## The transducer's readings (R147 to R149, R154) -/

/-- The state on which a reading acts: it is the last one, judged by the tolerance of the record in force (R154). -/
def readAs (mpa : Nat) (s : State) : State :=
  (s.setLines { s.lines with reading := mpa }).setPump { s.pump with formerTolerance := none }

theorem readAs_keeps (mpa : Nat) (s : State) : Keeps [.pump, .lines] s (readAs mpa s) :=
  (setPump_keeps ..).comp rfl ((setLines_keeps s _).comp rfl (Keeps.refl _ _))

theorem readingFits_readAs (mpa code : Nat) (s : State) :
    readingFits (readAs mpa s) code = true ↔ WithinTolerance s.cfg.tolerance code mpa :=
  withinTolerance_iff ..

theorem exec_reading_idle {mpa : Nat} {s : State} (h : s.pump.state = .off ∨ s.pump.state = .starting) :
    exec (.transducerReading mpa) s = .next (readAs mpa s) := by
  refine congrArg Host.Outcome.next ?_
  change takeReading (readAs mpa s) = readAs mpa s
  have hstate : (readAs mpa s).pump.state = s.pump.state := rfl
  rcases h with h | h <;> simp [takeReading, hstate, h]

theorem exec_reading_outside {mpa : Nat} {s : State} (h : s.pump.state = .ramping)
    (hread : ¬ WithinTolerance s.cfg.tolerance s.pump.code mpa) :
    exec (.transducerReading mpa) s = .next (readAs mpa s) := by
  refine congrArg Host.Outcome.next ?_
  change takeReading (readAs mpa s) = readAs mpa s
  have hstate : (readAs mpa s).pump.state = .ramping := h
  have hfits : ¬ readingFits (readAs mpa s) (readAs mpa s).pump.code = true :=
    (readingFits_readAs mpa _ s).not.2 hread
  simp [takeReading, hstate, hfits]

theorem exec_reading_inside {mpa : Nat} {s : State} (h : s.pump.state = .ramping)
    (hread : WithinTolerance s.cfg.tolerance s.pump.code mpa) :
    exec (.transducerReading mpa) s = .next (pumpDone (rampEnds (readAs mpa s))) := by
  refine congrArg Host.Outcome.next ?_
  change takeReading (readAs mpa s) = _
  have hstate : (readAs mpa s).pump.state = .ramping := h
  have hfits : readingFits (readAs mpa s) (readAs mpa s).pump.code = true :=
    (readingFits_readAs mpa _ s).2 hread
  simp [takeReading, hstate, hfits]

theorem rampEnds_steady {s : State} (h : s.pump.latch = none) : rampEnds s = enterSteady s := by simp [rampEnds, h]

/-- A ramp that ends with a request of another code latched goes on to that code. -/
theorem rampEnds_ramps {q : LevelReq} {s : State} (h : s.pump.latch = some q)
    (hcode : requestCode s.cfg q ≠ s.pump.code) (hread : ¬ ReadingWithin s (requestCode s.cfg q)) :
    rampEnds s = startRamp (requestCode s.cfg q) { s.pump with latch := none, target := q } s := by
  simp only [rampEnds, h, if_neg hcode]
  exact rampUnlatched_ramps rfl hread

/-- A reading that ends a ramp: the command ends with what the ramp's end leaves of the pump. -/
theorem exec_reading_ends_ramp {mpa : Nat} {s : State} (hwait : NoneWaits s) (h : s.pump.state = .ramping)
    (hread : WithinTolerance s.cfg.tolerance s.pump.code mpa) :
    ∃ t posted, exec (.transducerReading mpa) s = .next t ∧ t.link = linkAfter s.link posted none
      ∧ t.pump = (rampEnds (readAs mpa s)).pump ∧ t.job = s.job ∧ t.lines = { s.lines with reading := mpa } := by
  have kends := rampEnds_keeps (readAs mpa s)
  obtain ⟨t, posted, ht, hlink, hpump, hjob, hlines, -⟩ :=
    exec_pump_event hwait (exec_reading_inside h hread) (kends.comp rfl (readAs_keeps mpa s))
  exact ⟨t, posted, ht, hlink, hpump, hjob, hlines.trans (kends.lines rfl)⟩

/-- The band timer after a reading in STEADY. -/
def bandAfter (c : ConfigRec) (mpa : Nat) (p : Pump) : Option Band :=
  if p.valveOpen then bandValveOpen c p.code mpa p.band else bandValveClosed c p.code mpa p.band

theorem exec_reading_steady {mpa : Nat} {s : State} (h : s.pump.state = .steady) :
    exec (.transducerReading mpa) s = .next { s with
      lines := { s.lines with reading := mpa }
      pump := { s.pump with formerTolerance := none, band := bandAfter s.cfg mpa s.pump } } := by
  refine congrArg Host.Outcome.next ?_
  change takeReading (readAs mpa s) = _
  have hstate : (readAs mpa s).pump.state = .steady := h
  simp only [takeReading, hstate]
  rfl

/-- With the valve closed a reading outside the band starts a drift where the band timer does not run (R148). -/
theorem bandValveClosed_outside {c : ConfigRec} {code mpa : Nat} {b : Option Band}
    (h : mpa + c.tolerance < 5 * code ∨ 5 * code + c.tolerance < mpa) :
    bandValveClosed c code mpa b = b.or (drift c) := by
  have hout : ¬ withinTolerance c.tolerance code mpa = true := by
    rw [withinTolerance_iff]
    unfold WithinTolerance
    omega
  unfold bandValveClosed
  rw [if_neg hout]
  cases b <;> rfl

theorem bandValveClosed_inside {c : ConfigRec} {code mpa : Nat} {b : Option Band}
    (h : ¬ (mpa + c.tolerance < 5 * code ∨ 5 * code + c.tolerance < mpa)) : bandValveClosed c code mpa b = none := by
  refine if_pos ((withinTolerance_iff ..).2 ?_)
  unfold WithinTolerance
  omega

/-! ## The pump-running input lost (R148) -/

theorem exec_running_lost_idle {s : State} (h : s.pump.state = .off ∨ s.pump.state = .starting) :
    exec .pumpRunningInactive s = .next { s with lines := { s.lines with pumpRunning := false } } := by
  refine congrArg Host.Outcome.next (if_neg ?_)
  change ¬ (s.pump.state = .ramping ∨ s.pump.state = .steady)
  rcases h with h | h <;> simp [h]

theorem exec_running_lost {s : State} (h : s.pump.state = .steady ∨ s.pump.state = .ramping) :
    exec .pumpRunningInactive s
      = .next (pumpDone (runningLost (s.setLines { s.lines with pumpRunning := false }))) :=
  congrArg Host.Outcome.next (if_pos (Or.symm h))

/-- With the valve closed the pump is started again. -/
theorem exec_running_lost_restarts {s : State} (hwait : NoneWaits s)
    (h : s.pump.state = .steady ∨ s.pump.state = .ramping) (hvalve : s.pump.valveOpen = false) :
    ∃ t posted, exec .pumpRunningInactive s = .next t ∧ t.link = linkAfter s.link posted none
      ∧ t.pump = startingPump s.cfg s.pump.target s.pump ∧ t.job = s.job := by
  have hlost : runningLost (s.setLines { s.lines with pumpRunning := false })
      = enterStarting s.pump.target (s.setLines { s.lines with pumpRunning := false }) := by
    simp [runningLost, hvalve]
  have hexec := exec_running_lost h
  rw [hlost] at hexec
  obtain ⟨t, posted, ht, hlink, hpump, hjob, -, -⟩ := exec_pump_event hwait hexec
    ((enterStarting_keeps ..).comp rfl ((setLines_keeps s _).comp rfl (Keeps.refl _ _)))
  exact ⟨t, posted, ht, hlink,
    hpump.trans (enterStarting_waits (s := s.setLines { s.lines with pumpRunning := false }) rfl), hjob⟩

/-- With the valve open the pressure is lost. -/
theorem exec_running_lost_faults {s : State} (hwait : NoneWaits s)
    (h : s.pump.state = .steady ∨ s.pump.state = .ramping) (hvalve : s.pump.valveOpen = true) :
    ∃ t posted, exec .pumpRunningInactive s = .next t ∧ t.link = linkAfter s.link posted none
      ∧ t.job.state = .fault ∧ t.job.residency = some 2000 ∧ t.queue.entries = []
      ∧ t.job.fault = { kind := some .pressureLost, detail := s.lines.reading, secondary := 0 } := by
  have hlost : runningLost (s.setLines { s.lines with pumpRunning := false })
      = raiseFault .pressureLost s.lines.reading (s.setLines { s.lines with pumpRunning := false }) := by
    simp [runningLost, hvalve]
  have hexec := exec_running_lost h
  rw [hlost] at hexec
  obtain ⟨t, posted, ht, hlink, -, hends⟩ :=
    exec_pump_fault hwait hexec ((setLines_keeps s _).comp rfl (Keeps.refl _ _))
  exact ⟨t, posted, ht, hlink, hends⟩

/-! ## The band, standby and off timers (R148 to R151) -/

/-- A dip that lasts is a loss of pressure (R149). -/
theorem exec_dip_faults {s : State} {b : Band} (hwait : NoneWaits s) (h : s.pump.state = .steady)
    (hb : s.pump.band = some b) (hdip : b.dip = true) :
    ∃ t posted, exec .bandTimerExpiry s = .next t ∧ t.link = linkAfter s.link posted none
      ∧ t.job.state = .fault ∧ t.job.residency = some 2000 ∧ t.queue.entries = []
      ∧ t.job.fault = { kind := some .pressureLost, detail := b.lowest, secondary := 0 } := by
  have hexec : exec .bandTimerExpiry s
      = .next (pumpDone (raiseFault .pressureLost b.lowest (s.setPump { s.pump with band := none }))) :=
    congrArg Host.Outcome.next (by simp [bandExpiry, h, hb, hdip])
  obtain ⟨t, posted, ht, hlink, -, hends⟩ :=
    exec_pump_fault hwait hexec ((setPump_keeps s _).comp rfl (Keeps.refl _ _))
  exact ⟨t, posted, ht, hlink, hends⟩

/-- After a drift that lasts the pump ramps toward the same code (R148). -/
theorem exec_drift_ramps {s : State} {b : Band} (hwait : NoneWaits s) (h : s.pump.state = .steady)
    (hb : s.pump.band = some b) (hdip : b.dip = false) (hread : ¬ ReadingWithin s s.pump.code) :
    ∃ t posted, exec .bandTimerExpiry s = .next t ∧ t.link = linkAfter s.link posted none
      ∧ t.pump = rampingPump s.cfg s.pump.code s.pump ∧ t.job = s.job := by
  have hexec : exec .bandTimerExpiry s = .next (pumpDone (enterRamping s.pump.code { s.pump with band := none }
      (s.setPump { s.pump with band := none }))) :=
    congrArg Host.Outcome.next (by simp [bandExpiry, h, hb, hdip])
  obtain ⟨t, posted, ht, hlink, hpump, hjob, -, -⟩ := exec_pump_event hwait hexec
    ((enterRamping_keeps ..).comp rfl ((setPump_keeps s _).comp rfl (Keeps.refl _ _)))
  refine ⟨t, posted, ht, hlink, hpump.trans ?_, hjob⟩
  have hramp : enterRamping s.pump.code { s.pump with band := none } (s.setPump { s.pump with band := none })
      = startRamp s.pump.code { s.pump with band := none } (s.setPump { s.pump with band := none }) :=
    enterRamping_ramps rfl hread
  rw [hramp, startRamp_pump]
  rfl

/-- The ladder asks for STANDBY (R150). -/
theorem exec_standby_timer {s : State} {ms : Nat} (hwait : NoneWaits s) (htimer : s.pump.standbyTimer = some ms) :
    ∃ t posted, exec .standbyTimerExpiry s = .next t ∧ t.link = linkAfter s.link posted none
      ∧ t.pump = (levelRequest ⟨.standby, 0⟩ (s.setPump { s.pump with standbyTimer := none })).pump
      ∧ t.job = s.job := by
  have hexec : exec .standbyTimerExpiry s
      = .next (pumpDone (levelRequest ⟨.standby, 0⟩ (s.setPump { s.pump with standbyTimer := none }))) :=
    congrArg Host.Outcome.next (by simp [standbyExpiry, htimer])
  obtain ⟨t, posted, ht, hlink, hpump, hjob, -, -⟩ := exec_pump_event hwait hexec
    ((levelRequest_keeps ..).comp rfl ((setPump_keeps s _).comp rfl (Keeps.refl _ _)))
  exact ⟨t, posted, ht, hlink, hpump, hjob⟩

/-- The ladder asks for OFF (R151). -/
theorem exec_off_timer {s : State} {ms : Nat} (hwait : NoneWaits s) (htimer : s.pump.offTimer = some ms)
    (hon : s.pump.state ≠ .off) :
    ∃ t posted, exec .offTimerExpiry s = .next t ∧ t.link = linkAfter s.link posted none
      ∧ t.pump = stoppedPump s.pump ∧ t.job = s.job := by
  have hexec : exec .offTimerExpiry s = .next (pumpDone (pumpStop (s.setPump { s.pump with offTimer := none }))) := by
    refine congrArg Host.Outcome.next ?_
    rw [← levelRequest_stops 0 (s := s.setPump { s.pump with offTimer := none }) hon]
    simp [offExpiry, htimer]
  obtain ⟨t, posted, ht, hlink, hpump, hjob, -, -⟩ := exec_pump_event hwait hexec
    ((pumpStop_keeps _).comp rfl ((setPump_keeps s _).comp rfl (Keeps.refl _ _)))
  exact ⟨t, posted, ht, hlink, hpump.trans (pumpStop_pump _), hjob⟩

/-! ## O57 -/

/-- Settles O57: the readings by the pump state, then the running input lost and the three timers. -/
theorem pumpFollowsItsReadings : Obligations.PumpFollowsItsReadings := by
  intro mpa s hwait read judged drift dip lost
  refine ⟨fun h => ⟨exec_reading_idle h, exec_running_lost_idle h⟩, exec_reading_outside,
    fun h hread hlatch => ?_, fun q h hread hlatch hcode hout => ?_, fun h => ?_,
    fun h => ⟨fun hvalve => ?_, exec_running_lost_faults hwait h⟩,
    fun b h hb => ⟨exec_dip_faults hwait h hb, fun hdip hread => ?_⟩, fun ms h htimer hcode hread => ?_,
    fun ms h htimer => ?_⟩
  · obtain ⟨t, posted, ht, hlink, hpump, hjob, hlines⟩ := exec_reading_ends_ramp hwait h hread
    rw [rampEnds_steady (s := readAs mpa s) hlatch] at hpump
    obtain ⟨hstate, hcurrent, htarget, hcode, htimer⟩ := enterSteady_reads (readAs mpa s)
    rw [← hpump] at hstate hcurrent htarget hcode htimer
    exact ⟨t, posted, ht, hlink, hstate, hcurrent, htarget, hcode, htimer, hjob, hlines⟩
  · rw [levelCode_eq] at hcode hout ⊢
    obtain ⟨t, posted, ht, hlink, hpump, hjob, -⟩ := exec_reading_ends_ramp hwait h hread
    rw [rampEnds_ramps (s := readAs mpa s) hlatch hcode hout, startRamp_pump] at hpump
    refine ⟨t, posted, ht, hlink, ?_⟩
    rw [hpump]
    exact ⟨rfl, rfl, rfl, rfl, rfl, rfl, hjob⟩
  · refine (exec_reading_steady h).trans
      (congrArg (fun band => Host.Outcome.next { s with lines := read, pump := { judged with band := band } }) ?_)
    unfold bandAfter
    by_cases hvalve : s.pump.valveOpen = true
    · rw [if_pos hvalve, if_pos hvalve]
      rfl
    · rw [if_neg hvalve, if_neg hvalve]
      by_cases hout : mpa + s.cfg.tolerance < 5 * s.pump.code ∨ 5 * s.pump.code + s.cfg.tolerance < mpa
      · rw [if_pos hout, bandValveClosed_outside hout]
        cases s.pump.band <;> rfl
      · rw [if_neg hout, bandValveClosed_inside hout]
  · obtain ⟨t, posted, ht, hlink, hpump, hjob⟩ := exec_running_lost_restarts hwait h hvalve
    refine ⟨t, posted, ht, hlink, ?_⟩
    rw [hpump]
    exact ⟨rfl, rfl, rfl, rfl, rfl, rfl, rfl, hjob⟩
  · obtain ⟨t, posted, ht, hlink, hpump, hjob⟩ := exec_drift_ramps hwait h hb hdip hread
    refine ⟨t, posted, ht, hlink, ?_⟩
    rw [hpump]
    exact ⟨rfl, rfl, rfl, rfl, rfl, hjob⟩
  · obtain ⟨t, posted, ht, hlink, hpump, hjob⟩ := exec_standby_timer hwait htimer
    rw [levelRequest_ramps (r := ⟨.standby, 0⟩) (s := s.setPump { s.pump with standbyTimer := none }) nofun
      (NoneWaits.not_barred hwait) h hcode hread] at hpump
    refine ⟨t, posted, ht, hlink, ?_⟩
    rw [hpump]
    exact ⟨rfl, rfl, rfl, rfl, hjob⟩
  · obtain ⟨t, posted, ht, hlink, hpump, hjob⟩ := exec_off_timer hwait htimer (by simp [h])
    refine ⟨t, posted, ht, hlink, ?_⟩
    rw [hpump]
    exact ⟨rfl, rfl, rfl, rfl, hjob⟩

end Sys2Proof.Machine
end
